-- ==== Sys2Proof/Word.lean ====
section
/-! DEFINITION. The words of the SM83 and the operand codes of its opcode bytes (spec 30_encoding.md R301). -/

namespace Sys2Proof

/-- A byte: what one bus transaction moves (R200) and what an 8-bit register holds (R100). -/
abbrev Byte := BitVec 8

/-- A 16-bit value: an address (R200), SP, PC, or a register pair (R100). -/
abbrev Addr := BitVec 16

/-- The 8-bit registers that an opcode's `r` code selects (R301); code 6, the byte at HL, is `Opd.indHl`. -/
inductive R8 where
  | b | c | d | e | h | l | a
  deriving DecidableEq, Repr

/-- The pairs of the LD/INC/DEC/ADD group, code `p` (R301). -/
inductive Pair where
  | bc | de | hl | sp
  deriving DecidableEq, Repr

/-- The pairs of the PUSH/POP group whose halves are plain registers (R301, R433, R436); AF has rules of its own. -/
inductive StackPair where
  | bc | de | hl
  deriving DecidableEq, Repr

/-- The branch conditions `cc` (R301, R580). -/
inductive Cond where
  | nz | z | nc | c
  deriving DecidableEq, Repr

/-- The eight operations of the 8-bit ALU, code `y` (R301). -/
inductive AluOp where
  | add | adc | sub | sbc | and | xor | or | cp
  deriving DecidableEq, Repr

/-- The eight rotates and shifts of the prefixed table, code `y` (R301). -/
inductive ShiftOp where
  | rlc | rrc | rl | rr | sla | sra | swap | srl
  deriving DecidableEq, Repr

/-- An 8-bit operand: a register, or the memory byte at HL (R301 code 6, R302). -/
inductive Opd where
  | reg (r : R8)
  | indHl
  deriving DecidableEq, Repr

end Sys2Proof
end

