-- ==== Sys2Proof/Config.lean ====
section
/-! DEFINITION. The implementation parameters (spec 00_scope.md R7) and the free values, `draw(name)` of R14.
The parameters of a run are plain data and stand in the state (`Params`), so a statement for every state holds for
every choice of them; a draw is an opaque constant, so nothing in Lean can know its value. -/

namespace Sys2Proof

/-- `EchoPolicy` (R207, D11). -/
inductive EchoPolicy where
  | mirror | fault
  deriving DecidableEq, Repr

/-- `ProhibitedPolicy` (R208, D12). -/
inductive ProhibitedPolicy where
  | anyValue | openBus | fault
  deriving DecidableEq, Repr

/-- The parameters that stay fixed for a run (R7, R123). No step writes them. -/
structure Params where
  /-- `CGB_MODE` (R209, D15). -/
  cgbMode : Bool
  echoPolicy : EchoPolicy
  prohibitedPolicy : ProhibitedPolicy
  /-- `VideoBusBlocking` (R206, D13), OPEN. -/
  videoBusBlocking : Bool
  /-- `OPEN_BUS_VALUE` (R216, D16). -/
  openBusValue : Byte
  /-- `DMA_START_DELAY` in machine cycles (R651, D35). -/
  dmaStartDelay : Nat
  /-- `DMA_SOURCE_STRIDE` in bytes per unit of the DMA register (R652, D38). -/
  dmaSourceStride : Nat
  deriving DecidableEq, Repr

/-- The defaults of R7. `VideoBusBlocking` is OPEN there; false here is a DESIGN CHOICE (log entry 3), unsafe for
the one state `State.reset` only: every statement about states quantifies over it. -/
def Params.default : Params where
  cgbMode := false
  echoPolicy := .mirror
  prohibitedPolicy := .anyValue
  videoBusBlocking := false
  openBusValue := 0xFF
  dmaStartDelay := 1
  dmaSourceStride := 0x100

/-- `DMA_TRANSFER_SIZE`, fixed by the source (R650). -/
def dmaTransferSize : Nat := 160

/-- `BOOT_REGS` (R701, D4). -/
structure BootRegs where
  a : Byte
  f : Byte
  b : Byte
  c : Byte
  d : Byte
  e : Byte
  h : Byte
  l : Byte
  deriving DecidableEq, Repr

/-- The DMG post-boot registers (R701). -/
def BootRegs.dmg : BootRegs where
  a := 0x01
  f := 0xB0
  b := 0x00
  c := 0x13
  d := 0x00
  e := 0xD8
  h := 0x01
  l := 0x4D

/-- The CGB post-boot registers (R701). -/
def BootRegs.cgb : BootRegs where
  a := 0x11
  f := 0x80
  b := 0x00
  c := 0x00
  d := 0xFF
  e := 0x56
  h := 0x00
  l := 0x0D

/-- The default of `BOOT_REGS` for a choice of `CGB_MODE` (R701). -/
def BootRegs.default (cgbMode : Bool) : BootRegs := if cgbMode then .cgb else .dmg

/-- The draws the spec names: who answers, and for an I/O read at which address (R206, R208, R214, R248, R253).
`videoStore` is the draw that chooses whether a blocked video write lands (R206). -/
inductive DrawName where
  | video
  | videoStore
  | prohibited
  | io (a : Addr)
  | mbc2hi
  | mbc3sel
  deriving DecidableEq, Repr

/-- The free value of the `n`-th draw of a run, under the name it is asked for (R14: "any byte, under no law").
Opaque: no proof can see a value of it (log entry 4). -/
opaque Config.draw : DrawName → Nat → Byte

end Sys2Proof
end

