-- ==== Sys2Proof/Machine/State.lean ====
section
/-! DEFINITION. The state of the machine, as plain data, and its value after reset (spec 10_state.md; the reset rules
are 70_reset_and_hazards.md R700 to R709). Every field of `State` is named by a rule of the spec, but for three that
are the model's own: `opcodeAddr`, `draws` and `schedule`. -/

namespace Sys2Proof.Machine

/-! ## Stores -/

/-- A byte store, by offset from 0: the listed bytes, in the canonical form `Memory.wf`; see `Memory.unlisted`. -/
abbrev Memory := List Host.Cell

/-- What a byte that is not listed reads as. `InitialMemory` is OPEN (R705), so any choice here is a DESIGN CHOICE
(log entry 2); a claim must not rest on it, and a state lists whatever other contents it has. -/
def Memory.unlisted : Byte := 0x00

/-- The canonical form: addresses strictly rising, and no entry equal to what an unlisted address reads as. -/
abbrev Memory.wf (m : Memory) : Prop :=
  m.Pairwise (fun x y => x.1 < y.1) ∧ ∀ c ∈ m, c.2 ≠ Memory.unlisted

/-! ## The CPU -/

/-- The register file (R100): eight 8-bit registers, whose pairs AF, BC, DE and HL are high half and low half of the
same storage (R101), and the 16-bit SP and PC. -/
structure Regs where
  a : Byte
  f : Byte
  b : Byte
  c : Byte
  d : Byte
  e : Byte
  h : Byte
  l : Byte
  sp : Addr
  pc : Addr
  deriving DecidableEq, Repr

/-- The run modes (R111, R631). -/
inductive Mode where
  | running | halted | stopped | faulted
  deriving DecidableEq, Repr

/-! ## The cartridge (R121, R122) -/

/-- One copy of the five MBC3 clock registers (R255): S, M, H, DL, and the three stored bits of DH. -/
structure Rtc where
  sec : BitVec 6
  min : BitVec 6
  hour : BitVec 5
  dayLo : Byte
  /-- DH bit 0, bit 8 of the day counter. -/
  dayHi : Bool
  /-- DH bit 6: 1 stops the live clock. -/
  halt : Bool
  /-- DH bit 7: the day-counter carry. -/
  carry : Bool
  deriving DecidableEq, Repr

/-- The number of an RTC register, as `select` names it (R255): 0x08 to 0x0C in this order. -/
inductive RtcReg where
  | s | m | h | dl | dh
  deriving DecidableEq, Repr

/-- The MBC1 register file (R240). -/
structure Mbc1 where
  ramEnable : Bool
  bank1 : BitVec 5
  bank2 : BitVec 2
  mode : Bool
  deriving DecidableEq, Repr

/-- The MBC2 register file (R245); its nibble RAM is `State.nram`. -/
structure Mbc2 where
  ramEnable : Bool
  romBank : BitVec 4
  deriving DecidableEq, Repr

/-- The MBC3 register file (R250) and its clock, live and latched (R255); a cartridge without a timer never reaches
the clock (R257). -/
structure Mbc3 where
  ramTimerEnable : Bool
  romBank : BitVec 7
  select : Byte
  latchArmed : Bool
  live : Rtc
  latched : Rtc
  deriving DecidableEq, Repr

/-- The MBC5 register file (R260). -/
structure Mbc5 where
  ramEnable : Bool
  romBankLo : Byte
  romBankHi : BitVec 1
  ramBank : BitVec 4
  rumble : Bool
  deriving DecidableEq, Repr

/-- The variant, "a closed sum type" (R232), with its register file. -/
inductive Mbc where
  | noMbc
  | mbc1 (r : Mbc1)
  | mbc2 (r : Mbc2)
  | mbc3 (r : Mbc3)
  | mbc5 (r : Mbc5)
  deriving DecidableEq, Repr

/-- The cartridge (R121): what construction fixes (type code, flags of R229, bank counts of R227 and R228), and the
variant's registers. `ramBanks` is 0 for a type that declares no RAM (R228). The byte stores are fields of `State`. -/
structure Cart where
  typeCode : Byte
  battery : Bool
  timer : Bool
  rumble : Bool
  romBanks : Nat
  ramBanks : Nat
  mbc : Mbc
  deriving DecidableEq, Repr

/-! ## The DMA sequencer, faults, events, environment -/

/-- The DMA byte sequencer's "three fields" (R118). -/
structure Dma where
  active : Bool
  delay : Nat
  count : Nat
  deriving DecidableEq, Repr

/-- The direction of a bus transaction (R654). -/
inductive Access where
  | read | write
  deriving DecidableEq, Repr

/-- The spec's faults with their info (R601). Raising one is an effect the spec describes (R600), so it makes a next
state: `Mode.faulted` with the fault in the fault record. -/
inductive FaultInfo where
  | illegalOpcode (opcode : Byte) (address : Addr)
  | dmaBusConflict (address : Addr) (access : Access)
  | echoAccess (address : Addr)
  | prohibitedAccess (address : Addr)
  /-- `Unmodelled`: a CGB-mode write to a speed, VRAM-bank or HDMA register (R215). -/
  | unmodelledWrite (address : Addr)
  /-- `Unmodelled`: STOP in CGB mode (R592). -/
  | unmodelledStop (opcode : Byte) (address : Addr)
  /-- `Unmodelled`: a DMA source page 0xFE or 0xFF (R653). -/
  | unmodelledDma (address : Addr) (value : Byte)
  deriving DecidableEq, Repr

/-- The kinds of an invalid access (R216). -/
inductive InvalidKind where
  | prohibitedRange | ramDisabled | ramAbsent | rtcDisabled | rtcSelectInvalid
  deriving DecidableEq, Repr

/-- The entries of the event history (R14, R124). -/
inductive Event where
  | invalidAccess (kind : InvalidKind) (address : Addr)
  | ioWrite (address : Addr) (value : Byte)
  | rumble (on : Bool)
  deriving DecidableEq, Repr

/-- The environment's moves at a step boundary that change the core's state (R690). -/
inductive EnvMove where
  | raiseInterrupt (source : Fin 5)
  | rtcTick
  | wake
  deriving DecidableEq, Repr

/-! ## The state -/

/-- Everything the spec gives the machine (R126), the parameters of the run (R7) and the cartridge image (R226). -/
structure State where
  regs : Regs
  /-- IME (R109). -/
  ime : Bool
  /-- Set by EI; IME becomes 1 at the end of the next instruction (R110). -/
  eiPending : Bool
  /-- The run mode (R111). -/
  mode : Mode
  /-- The next opcode fetch does not advance pc (R112, R596). -/
  haltBug : Bool
  /-- Machine cycles since reset (R113). -/
  cycles : Nat
  /-- IE, at 0xFFFF (R115). -/
  ie : Byte
  /-- The five stored bits of IF, at 0xFF0F (R116). -/
  iflag : BitVec 5
  /-- The DMA source register, at 0xFF46 (R117). -/
  dmaReg : Byte
  /-- The DMA byte sequencer (R118). -/
  dma : Dma
  /-- The three stored bits of SVBK, at 0xFF70 in CGB mode (R119). -/
  svbk : BitVec 3
  /-- Work RAM: bank b at offset b * 0x1000 (R120, R209). -/
  wram : Memory
  /-- High RAM, 127 bytes (R120, R210). -/
  hram : Memory
  /-- Video RAM (R120, R206). -/
  vram : Memory
  /-- The object-attribute memory, 160 bytes (R120). -/
  oam : Memory
  /-- The cartridge image, by image offset (R225); no step writes it (R204). -/
  rom : Memory
  /-- Cartridge RAM: bank b at offset b * 0x2000 (R225). -/
  cartRam : Memory
  /-- MBC2's 512 nibbles (R245). -/
  nram : Memory
  cart : Cart
  params : Params
  /-- The fault record: the first fault, never cleared (R124, R600). -/
  fault : Option FaultInfo
  /-- The event history, oldest first (R124). -/
  history : List Event
  /-- The model's own: the address the instruction in flight was fetched from, which an illegal opcode reports
  (R597); every opcode fetch writes it (log entry 7). -/
  opcodeAddr : Addr
  /-- The model's own: how many draws the run has taken (R14); `Config.draw` is applied to it (log entry 4). -/
  draws : Nat
  /-- The model's own: what the environment does at the coming step boundaries, the next one first (R690); each
  boundary consumes one entry, and past the end the environment makes no move (log entry 5). -/
  schedule : List (List EnvMove)
  deriving DecidableEq, Repr

/-- Why the machine answers no next state. -/
inductive Fault where
  /-- Raised by `step` alone, at a state whose mode is faulted: "From then on no agent takes a step" (R600). It carries
  the fault record. Safe: the spec gives such a state no step. -/
  | faulted (record : Option FaultInfo)
  deriving DecidableEq, Repr

/-- Why an instruction has no meaning in the model. -/
inductive Refusal where
  /-- An instruction that is not modelled yet, by its mnemonic in spec/opcode_table.json. Raised by an arm of `exec`
  only; no arm raises it now. Safe: nothing is claimed of such an instruction. -/
  | notModelled (mnemonic : String)
  deriving DecidableEq, Repr

/-- What an instruction and a step answer. -/
abbrev Outcome := Host.Outcome State Fault Refusal

/-- What an operation inside a step answers: a value and the state after it, or, after `raise Fault`, the faulted
state in which the rest of the step is abandoned (R600). -/
inductive Res (α : Type) where
  | ok (a : α) (s : State)
  | stop (s : State)

/-! ## Reset -/

/-- `InitialMemory` (R705, D8): the contents of the stores before the run. -/
structure InitialMemory where
  wram : Memory
  hram : Memory
  vram : Memory
  oam : Memory
  cartRam : Memory
  nram : Memory
  deriving DecidableEq, Repr

/-- Nothing listed in any store. -/
def InitialMemory.unlisted : InitialMemory where
  wram := []
  hram := []
  vram := []
  oam := []
  cartRam := []
  nram := []

/-- A clock at zero, for examples: `State.reset` holds no clock, and `load` takes `RtcInitial` (R706, log entry 11). -/
def Rtc.zero : Rtc where
  sec := 0
  min := 0
  hour := 0
  dayLo := 0
  dayHi := false
  halt := false
  carry := false

/-- The state before any cartridge image is loaded holds this cartridge: NoMBC (type 0x00), two ROM banks, no RAM
(log entry 1). `load` (R710) puts the real one in its place. -/
def Cart.unloaded : Cart where
  typeCode := 0x00
  battery := false
  timer := false
  rumble := false
  romBanks := 2
  ramBanks := 0
  mbc := .noMbc

/-- The reset state for every choice of the parameters (R700 to R709). `cart` comes with its registers at their reset
values (R707), as construction leaves them. -/
def State.resetWith (p : Params) (boot : BootRegs) (ifReset : Byte) (mem : InitialMemory) (cart : Cart)
    (image : Memory) : State where
  regs := { a := boot.a, f := boot.f &&& 0xF0, b := boot.b, c := boot.c, d := boot.d, e := boot.e, h := boot.h,
            l := boot.l, sp := 0xFFFE, pc := 0x0100 }
  ime := false
  eiPending := false
  mode := .running
  haltBug := false
  cycles := 0
  ie := 0x00
  iflag := ifReset.extractLsb' 0 5
  dmaReg := 0xFF
  dma := { active := false, delay := 0, count := 0 }
  svbk := 0
  wram := mem.wram
  hram := mem.hram
  vram := mem.vram
  oam := mem.oam
  rom := image
  cartRam := mem.cartRam
  nram := mem.nram
  cart := cart
  params := p
  fault := none
  history := []
  opcodeAddr := 0x0100
  draws := 0
  schedule := []

/-- `IF_RESET` by default (R704, D7). -/
def ifResetDefault : Byte := 0xE1

/-- The machine right after reset: the default parameters of R7, DMG post-boot registers, nothing listed in memory and
no cartridge image loaded. -/
def State.reset : State :=
  .resetWith .default (.default Params.default.cgbMode) ifResetDefault .unlisted .unloaded []

end Sys2Proof.Machine
end

