-- ==== Sys2Proof/Machine/Regs.lean ====
section
/-! DEFINITION. The register file's accessors and the halves of a 16-bit value (spec 10_state.md R100, R101;
00_scope.md R10, R11). -/

namespace Sys2Proof.Machine

/-! ## Halves of a 16-bit value (R101) and sign extension (R10) -/

/-- `HighByte()` (R101). -/
def hi8 (v : Addr) : Byte := v.extractLsb' 8 8

/-- `LowByte()` (R101). -/
def lo8 (v : Addr) : Byte := v.extractLsb' 0 8

/-- `{hi, lo}`, the value of a pair: hi * 256 + lo (R9, R101). -/
def join (hi lo : Byte) : Addr := hi ++ lo

/-- `sext_16` (R10). -/
def sext16 (v : Byte) : Addr := v.signExtend 16

/-- `zext_16` (R10). -/
def zext16 (v : Byte) : Addr := v.zeroExtend 16

/-! ## Registers (R100, R101): one home each; a write of a half leaves the other half alone. -/

/-- `x[r]` for an 8-bit register (R11). -/
def Regs.r8 (g : Regs) : R8 → Byte
  | .b => g.b
  | .c => g.c
  | .d => g.d
  | .e => g.e
  | .h => g.h
  | .l => g.l
  | .a => g.a

/-- `x[r] <- v` for an 8-bit register (R11). -/
def Regs.setR8 (g : Regs) (r : R8) (v : Byte) : Regs :=
  match r with
  | .b => { g with b := v }
  | .c => { g with c := v }
  | .d => { g with d := v }
  | .e => { g with e := v }
  | .h => { g with h := v }
  | .l => { g with l := v }
  | .a => { g with a := v }

/-- AF (R100). -/
def Regs.af (g : Regs) : Addr := join g.a g.f
/-- BC (R100). -/
def Regs.bc (g : Regs) : Addr := join g.b g.c
/-- DE (R100). -/
def Regs.de (g : Regs) : Addr := join g.d g.e
/-- HL (R100). -/
def Regs.hl (g : Regs) : Addr := join g.h g.l

/-- `x[rr]` for the LD/INC/DEC/ADD group (R11, R301). -/
def Regs.pair (g : Regs) : Pair → Addr
  | .bc => g.bc
  | .de => g.de
  | .hl => g.hl
  | .sp => g.sp

/-- `x[rr] <- v` for the LD/INC/DEC/ADD group (R11, R301). -/
def Regs.setPair (g : Regs) (p : Pair) (v : Addr) : Regs :=
  match p with
  | .bc => { g with b := hi8 v, c := lo8 v }
  | .de => { g with d := hi8 v, e := lo8 v }
  | .hl => { g with h := hi8 v, l := lo8 v }
  | .sp => { g with sp := v }

/-- `x[rr]` for the PUSH/POP group (R433). -/
def Regs.stackPair (g : Regs) : StackPair → Addr
  | .bc => g.bc
  | .de => g.de
  | .hl => g.hl

/-- `x[rr] <- v` for the PUSH/POP group (R436). -/
def Regs.setStackPair (g : Regs) (p : StackPair) (v : Addr) : Regs :=
  match p with
  | .bc => { g with b := hi8 v, c := lo8 v }
  | .de => { g with d := hi8 v, e := lo8 v }
  | .hl => { g with h := hi8 v, l := lo8 v }

/-- Write an 8-bit register of the state. -/
def State.setR8 (s : State) (r : R8) (v : Byte) : State := { s with regs := s.regs.setR8 r v }
/-- Write a pair of the state. -/
def State.setPair (s : State) (p : Pair) (v : Addr) : State := { s with regs := s.regs.setPair p v }
/-- Write SP. -/
def State.setSp (s : State) (v : Addr) : State := { s with regs := { s.regs with sp := v } }
/-- Write PC (R11: `pc <- target`). -/
def State.setPc (s : State) (v : Addr) : State := { s with regs := { s.regs with pc := v } }
/-- Write F whole; its low nibble stays zero: "any flag write must preserve the zeroed lower nibble" (R105). -/
def State.setF (s : State) (v : Byte) : State := { s with regs := { s.regs with f := v &&& 0xF0 } }

/-- `cycles(k)` (R14, R113). -/
def State.addCycles (s : State) (k : Nat) : State := { s with cycles := s.cycles + k }

/-- `event(kind, info)` appends to the event history (R14, R124). -/
def State.record (s : State) (e : Event) : State := { s with history := s.history ++ [e] }

/-- The state after one more draw (R14). -/
def State.drawn (s : State) : State := { s with draws := s.draws + 1 }

/-- The faulted state: mode and fault record, all else as it stands (R600). -/
def State.raised (s : State) (k : FaultInfo) : State := { s with mode := .faulted, fault := some k }

/-! ## Operations that may fault -/

/-- Go on after an operation, unless it raised a fault (R600). -/
def Res.bind {α β : Type} (r : Res α) (f : α → State → Res β) : Res β :=
  match r with
  | .ok a s => f a s
  | .stop s => .stop s

/-- `raise Fault(kind, info)` (R14, R600). -/
def raise {α : Type} (k : FaultInfo) (s : State) : Res α := .stop (s.raised k)

/-- `draw(name)`: a byte under no law (R14). -/
def draw (name : DrawName) (s : State) : Res Byte := .ok (Config.draw name s.draws) s.drawn

/-- The end of an instruction of cost `k` (R15, R740); after a fault no cycles are counted (R600, R597). -/
def Res.finish (r : Res Unit) (k : Nat) : Outcome :=
  match r with
  | .ok _ s => .next (s.addCycles k)
  | .stop s => .next s

/-- The state an operation leaves, faulted or not, as an outcome. -/
def Res.outcome (r : Res Unit) : Outcome :=
  match r with
  | .ok _ s => .next s
  | .stop s => .next s

end Sys2Proof.Machine
end

