-- ==== Sys2Proof/Machine/Cart.lean ====
section
/-! DEFINITION. The cartridge: its register writes, its ROM and RAM mapping, and the MBC3 clock
(spec 20_memory.md R224 to R263, 60_exceptions.md R640 and R641). -/

namespace Sys2Proof.Machine

/-! ## The clock (R255, R256, R641) -/

/-- The stored bits of an RTC register, "every bit not stored reading 0" (R256). -/
def Rtc.get (t : Rtc) : RtcReg → Byte
  | .s => t.sec.zeroExtend 8
  | .m => t.min.zeroExtend 8
  | .h => t.hour.zeroExtend 8
  | .dl => t.dayLo
  | .dh => BitVec.ofBool t.carry ++ BitVec.ofBool t.halt ++ 0#5 ++ BitVec.ofBool t.dayHi

/-- Store a value's stored bits (R256). -/
def Rtc.set (t : Rtc) (r : RtcReg) (v : Byte) : Rtc :=
  match r with
  | .s => { t with sec := v.extractLsb' 0 6 }
  | .m => { t with min := v.extractLsb' 0 6 }
  | .h => { t with hour := v.extractLsb' 0 5 }
  | .dl => { t with dayLo := v }
  | .dh => { t with dayHi := v.getLsbD 0, halt := v.getLsbD 6, carry := v.getLsbD 7 }

/-- The nine-bit day counter (R641). -/
def Rtc.day (t : Rtc) : Nat := (if t.dayHi then 256 else 0) + t.dayLo.toNat

/-- One more day; the carry is set when the counter wraps, and is sticky (R641). -/
def Rtc.nextDay (t : Rtc) : Rtc :=
  if t.day = 511 then { t with dayLo := 0, dayHi := false, carry := true }
  else { t with dayLo := BitVec.ofNat 8 (t.day + 1), dayHi := decide (256 ≤ t.day + 1) }

/-- One tick of the live clock, a second (R641); a field past its range wraps with no carry. -/
def Rtc.tick (t : Rtc) : Rtc :=
  if t.halt then t
  else if t.sec ≠ 59 then { t with sec := t.sec + 1 }
  else if t.min ≠ 59 then { t with sec := 0, min := t.min + 1 }
  else if t.hour ≠ 23 then { t with sec := 0, min := 0, hour := t.hour + 1 }
  else { t.nextDay with sec := 0, min := 0, hour := 0 }

/-- The register that a `select` value names (R255). -/
def rtcRegOf (select : Byte) : Option RtcReg :=
  match select.toNat with
  | 0x08 => some .s
  | 0x09 => some .m
  | 0x0A => some .h
  | 0x0B => some .dl
  | 0x0C => some .dh
  | _ => none

/-! ## Register writes: `Cart.WriteByte` in the ROM window (R233) -/

/-- `v[3:0] == 0xA` (R241, R246, R251). -/
def lowNibbleIsA (v : Byte) : Bool := v.extractLsb' 0 4 == 0xA#4

/-- MBC1 (R241). -/
def Mbc1.write (r : Mbc1) (a : Nat) (v : Byte) : Mbc1 :=
  if a < 0x2000 then { r with ramEnable := lowNibbleIsA v }
  else if a < 0x4000 then { r with bank1 := v.extractLsb' 0 5 }
  else if a < 0x6000 then { r with bank2 := v.extractLsb' 0 2 }
  else { r with mode := v.getLsbD 0 }

/-- MBC2: address bit 8 selects the register (R246). -/
def Mbc2.write (r : Mbc2) (a : Nat) (v : Byte) : Mbc2 :=
  if a < 0x4000 then
    if a / 256 % 2 = 0 then { r with ramEnable := lowNibbleIsA v } else { r with romBank := v.extractLsb' 0 4 }
  else r

/-- The latch sequence of a timer cartridge (R254): 0x01 right after 0x00 copies the live clock. -/
def Mbc3.latch (r : Mbc3) (v : Byte) : Mbc3 :=
  { r with latched := if r.latchArmed && v == 0x01 then r.live else r.latched, latchArmed := v == 0x00 }

/-- MBC3 (R251); the latch only on a timer cartridge (R257). -/
def Mbc3.write (r : Mbc3) (timer : Bool) (a : Nat) (v : Byte) : Mbc3 :=
  if a < 0x2000 then { r with ramTimerEnable := lowNibbleIsA v }
  else if a < 0x4000 then { r with romBank := v.extractLsb' 0 7 }
  else if a < 0x6000 then { r with select := v }
  else if timer then r.latch v
  else r

/-- MBC5 (R261); all eight bits are compared with 0x0A. -/
def Mbc5.write (r : Mbc5) (rumbleCart : Bool) (a : Nat) (v : Byte) : Mbc5 :=
  if a < 0x2000 then { r with ramEnable := v == 0x0A }
  else if a < 0x3000 then { r with romBankLo := v }
  else if a < 0x4000 then { r with romBankHi := v.extractLsb' 0 1 }
  else if a < 0x6000 then
    if rumbleCart then { r with rumble := v.getLsbD 3, ramBank := (v.extractLsb' 0 3).zeroExtend 4 }
    else { r with ramBank := v.extractLsb' 0 4 }
  else r

/-- `Cart.WriteByte` below 0x8000: only the register file changes (R233); NoMBC has none (R234). -/
def Cart.writeReg (c : Cart) (a : Nat) (v : Byte) : Cart :=
  match c.mbc with
  | .noMbc => c
  | .mbc1 r => { c with mbc := .mbc1 (r.write a v) }
  | .mbc2 r => { c with mbc := .mbc2 (r.write a v) }
  | .mbc3 r => { c with mbc := .mbc3 (r.write c.timer a v) }
  | .mbc5 r => { c with mbc := .mbc5 (r.write c.rumble a v) }

/-- The `Rumble` event of a register write: on a rumble cartridge, when the motor bit changes (R263). -/
def Cart.rumbleEvents (c : Cart) (a : Nat) (v : Byte) : List Event :=
  match c.mbc with
  | .mbc5 r =>
    if c.rumble && decide (0x4000 ≤ a) && decide (a < 0x6000) && (r.rumble != v.getLsbD 3)
    then [.rumble (v.getLsbD 3)] else []
  | _ => []

/-! ## ROM mapping (R234, R242, R247, R252, R262) -/

/-- `bank number 0` read as 1 (R242, R247, R252). -/
def zeroToOne (n : Nat) : Nat := if n = 0 then 1 else n

/-- The bank of the fixed window 0x0000-0x3FFF, before reduction. -/
def Mbc.fixedBank : Mbc → Nat
  | .noMbc => 0
  | .mbc1 r => if r.mode then r.bank2.toNat * 32 else 0
  | .mbc2 _ => 0
  | .mbc3 _ => 0
  | .mbc5 _ => 0

/-- The bank of the switchable window 0x4000-0x7FFF, before reduction. MBC5 has no remap of 0 (R262). -/
def Mbc.switchBank : Mbc → Nat
  | .noMbc => 1
  | .mbc1 r => r.bank2.toNat * 32 + zeroToOne r.bank1.toNat
  | .mbc2 r => zeroToOne r.romBank.toNat
  | .mbc3 r => zeroToOne r.romBank.toNat
  | .mbc5 r => r.romBankHi.toNat * 256 + r.romBankLo.toNat

/-- The image offset that a ROM-window address reads (R225): the bank number is reduced modulo the bank count. NoMBC
passes the address through (R234). DEDUCED (log entry 18): so an even nonzero `bank1` of a two-bank MBC1 cartridge maps
bank 0, as R225 and R242 give, where R244's corner case says that every bank number reduces to bank 1. -/
def Cart.romOffset (c : Cart) (a : Nat) : Nat :=
  match c.mbc with
  | .noMbc => a
  | m =>
    if a < 0x4000 then (m.fixedBank % c.romBanks) * 0x4000 + a
    else (m.switchBank % c.romBanks) * 0x4000 + (a - 0x4000)

/-! ## The window 0xA000-0xBFFF (R205) -/

/-- What an offset of the external RAM window is mapped to. -/
inductive RamTarget where
  /-- A byte of cartridge RAM, by store offset. -/
  | ram (off : Nat)
  /-- A nibble of MBC2's RAM. -/
  | nibble (off : Nat)
  /-- A clock register. -/
  | rtc (r : RtcReg)
  /-- Nothing: open bus, with the invalid-access kind it records. -/
  | openBus (kind : InvalidKind)
  /-- An MBC3 `select` value that names nothing: a read is a draw. -/
  | unselected
  deriving DecidableEq, Repr

/-- A RAM bank's byte, or `RamAbsent` where there is no bank (R225, R234). -/
def Cart.ramByte (c : Cart) (bank off : Nat) : RamTarget :=
  if c.ramBanks = 0 then .openBus .ramAbsent else .ram ((bank % c.ramBanks) * 0x2000 + off)

/-- The mapping of the window, per variant (R234, R243, R248, R253, R263). -/
def Cart.ramTarget (c : Cart) (off : Nat) : RamTarget :=
  match c.mbc with
  | .noMbc => c.ramByte 0 off
  | .mbc1 r => if r.ramEnable then c.ramByte (if r.mode then r.bank2.toNat else 0) off else .openBus .ramDisabled
  | .mbc2 r => if r.ramEnable then .nibble (off % 512) else .openBus .ramDisabled
  | .mbc3 r =>
    if r.ramTimerEnable then
      if r.select.toNat ≤ 0x07 then c.ramByte r.select.toNat off
      else match rtcRegOf r.select with
        | some reg => if c.timer then .rtc reg else .unselected
        | none => .unselected
    else .openBus (if r.select.toNat ≤ 0x07 then .ramDisabled else .rtcDisabled)
  | .mbc5 r => if r.ramEnable then c.ramByte r.ramBank.toNat off else .openBus .ramDisabled

/-- A read of a clock register: the latched copy (R256). Only MBC3 maps one. -/
def Cart.rtcRead (c : Cart) (r : RtcReg) : Byte :=
  match c.mbc with
  | .mbc3 m => m.latched.get r
  | _ => 0

/-- A write of a clock register: the live copy (R256). Only MBC3 maps one. -/
def Cart.rtcWrite (c : Cart) (r : RtcReg) (v : Byte) : Cart :=
  match c.mbc with
  | .mbc3 m => { c with mbc := .mbc3 { m with live := m.live.set r v } }
  | _ => c

/-- `RtcTick` on the cartridge: "A tick on a cartridge without a timer does nothing" (R641). -/
def Cart.rtcTick (c : Cart) : Cart :=
  match c.mbc with
  | .mbc3 m => if c.timer then { c with mbc := .mbc3 { m with live := m.live.tick } } else c
  | _ => c

end Sys2Proof.Machine
end

