-- ==== Sys2Proof/Machine/Store.lean ====
section
/-! DEFINITION. Reading and writing one byte of a byte store (spec 10_state.md R120). -/

namespace Sys2Proof.Machine

/-- The byte at an offset. -/
def Memory.read : Memory → Nat → Byte
  | [], _ => Memory.unlisted
  | (b, v) :: m, a => if b = a then v else Memory.read m a

/-- The store without the entry of an offset. -/
def Memory.erase : Memory → Nat → Memory
  | [], _ => []
  | (b, v) :: m, a => if b = a then Memory.erase m a else (b, v) :: Memory.erase m a

/-- The store with an entry put before the first larger offset. -/
def Memory.insert : Memory → Nat → Byte → Memory
  | [], a, v => [(a, v)]
  | (b, w) :: m, a, v => if a < b then (a, v) :: (b, w) :: m else (b, w) :: Memory.insert m a v

/-- Store one byte, keeping the canonical form: a byte equal to what an unlisted offset reads as has no entry. -/
def Memory.write (m : Memory) (a : Nat) (v : Byte) : Memory :=
  if v = Memory.unlisted then Memory.erase m a else Memory.insert (Memory.erase m a) a v

/-- A store from its bytes in order, the first at offset `a`. -/
def Memory.ofBytes : List Byte → Nat → Memory
  | [], _ => []
  | v :: vs, a =>
    if v = Memory.unlisted then Memory.ofBytes vs (a + 1) else (a, v) :: Memory.ofBytes vs (a + 1)

end Sys2Proof.Machine
end

