-- ==== Sys2Proof/Machine/Bus.lean ====
section
/-! DEFINITION. The bus: the address decoder, `BusRead` and `BusWrite` (spec 20_memory.md R200 to R216), and the start
of a DMA transfer, which a bus write performs (60_exceptions.md R651, R653). -/

namespace Sys2Proof.Machine

/-- What an address is decoded to (R203): a store and an offset in it, a register of the core, or a region with a
rule of its own. -/
inductive Target where
  /-- 0x0000-0x7FFF: an image byte; a write goes to the cartridge's registers (R204, R233). -/
  | rom (off : Nat)
  | vram (off : Nat)
  /-- 0xA000-0xBFFF, as the cartridge maps it (R205). -/
  | ext (t : RamTarget)
  | wram (off : Nat)
  /-- 0xE000-0xFDFF under `EchoPolicy` = fault (R207). -/
  | echoFault
  | oam (off : Nat)
  | prohibited
  | iflag
  | dma
  /-- 0xFF70 in CGB mode (R213). -/
  | svbk
  /-- Any other address of 0xFF00-0xFF7F: a device outside the core, or none (R214). -/
  | io
  | hram (off : Nat)
  | ie
  deriving DecidableEq, Repr

/-- The work-RAM bank at 0xD000 (R209). -/
def State.wramBank (s : State) : Nat :=
  if s.params.cgbMode then zeroToOne s.svbk.toNat else 1

/-- The store offset of a work-RAM window offset (R209). -/
def State.wramOffset (s : State) (off : Nat) : Nat :=
  if off < 0x1000 then off else s.wramBank * 0x1000 + (off - 0x1000)

/-- The address decoder: every 16-bit address exactly once (R201, R203, R217). -/
def State.locate (s : State) (a : Addr) : Target :=
  let n := a.toNat
  if n < 0x8000 then .rom (s.cart.romOffset n)
  else if n < 0xA000 then .vram (n - 0x8000)
  else if n < 0xC000 then .ext (s.cart.ramTarget (n - 0xA000))
  else if n < 0xE000 then .wram (s.wramOffset (n - 0xC000))
  else if n < 0xFE00 then
    match s.params.echoPolicy with
    | .mirror => .wram (s.wramOffset (n - 0xE000))
    | .fault => .echoFault
  else if n < 0xFEA0 then .oam (n - 0xFE00)
  else if n < 0xFF00 then .prohibited
  else if n = 0xFF0F then .iflag
  else if n = 0xFF46 then .dma
  else if n = 0xFF70 ∧ s.params.cgbMode = true then .svbk
  else if n < 0xFF80 then .io
  else if n < 0xFFFF then .hram (n - 0xFF80)
  else .ie

/-! ## Reads -/

/-- `VideoRead` (R206): the byte, or a draw while the picture unit may block the CPU. -/
def videoRead (v : Byte) (s : State) : Res Byte :=
  if s.params.videoBusBlocking then draw .video s else .ok v s

/-- An invalid access's event (R216). -/
def State.invalid (s : State) (k : InvalidKind) (a : Addr) : State := s.record (.invalidAccess k a)

/-- `ProhibitedRead` (R208). -/
def prohibitedRead (a : Addr) (s : State) : Res Byte :=
  match s.params.prohibitedPolicy with
  | .anyValue => draw .prohibited (s.invalid .prohibitedRange a)
  | .openBus => .ok s.params.openBusValue (s.invalid .prohibitedRange a)
  | .fault => raise (.prohibitedAccess a) s

/-- A read of the external RAM window (R205, R216, R248, R253, R256). -/
def extRead (t : RamTarget) (a : Addr) (s : State) : Res Byte :=
  match t with
  | .ram off => .ok (s.cartRam.read off) s
  | .nibble off =>
    (draw .mbc2hi s).bind fun d s => .ok (d.extractLsb' 0 4 ++ (s.nram.read off).extractLsb' 0 4) s
  | .rtc r => .ok (s.cart.rtcRead r) s
  | .openBus k => .ok s.params.openBusValue (s.invalid k a)
  | .unselected => draw .mbc3sel (s.invalid .rtcSelectInvalid a)

/-- `BusRead(a)` (R201). -/
def busRead (a : Addr) (s : State) : Res Byte :=
  match s.locate a with
  | .rom off => .ok (s.rom.read off) s
  | .vram off => videoRead (s.vram.read off) s
  | .ext t => extRead t a s
  | .wram off => .ok (s.wram.read off) s
  | .echoFault => raise (.echoAccess a) s
  | .oam off => videoRead (s.oam.read off) s
  | .prohibited => prohibitedRead a s
  | .iflag => .ok (0b111#3 ++ s.iflag) s
  | .dma => .ok s.dmaReg s
  | .svbk => .ok (0b11111#5 ++ s.svbk) s
  | .io => draw (.io a) s
  | .hram off => .ok (s.hram.read off) s
  | .ie => .ok s.ie s

/-! ## Writes -/

/-- The store after `VideoWrite` (R206): under blocking a draw chooses whether the byte lands. -/
def videoStore (m : Memory) (off : Nat) (v : Byte) (s : State) : Memory :=
  if s.params.videoBusBlocking && !((Config.draw .videoStore s.draws).getLsbD 0) then m else m.write off v

/-- The draw that `VideoWrite` takes under blocking (R206). -/
def State.videoDrawn (s : State) : State := if s.params.videoBusBlocking then s.drawn else s

/-- `ProhibitedWrite` (R208): nothing changes but the event history. -/
def prohibitedWrite (a : Addr) (s : State) : Res Unit :=
  match s.params.prohibitedPolicy with
  | .anyValue => .ok () (s.invalid .prohibitedRange a)
  | .openBus => .ok () (s.invalid .prohibitedRange a)
  | .fault => raise (.prohibitedAccess a) s

/-- A write of the external RAM window (R205, R216, R248, R253, R256). -/
def extWrite (t : RamTarget) (a : Addr) (v : Byte) (s : State) : State :=
  match t with
  | .ram off => { s with cartRam := s.cartRam.write off v }
  | .nibble off => { s with nram := s.nram.write off (v &&& 0x0F) }
  | .rtc r => { s with cart := s.cart.rtcWrite r v }
  | .openBus k => s.invalid k a
  | .unselected => s.invalid .rtcSelectInvalid a

/-- `StartDmaTransfer(v)`, after the register holds v (R651); source pages 0xFE and 0xFF fault (R653). -/
def startDma (v : Byte) (s : State) : Res Unit :=
  if 0xFE ≤ v.toNat then raise (.unmodelledDma 0xFF46 v) s
  else .ok () { s with dma := { active := true, delay := s.params.dmaStartDelay, count := 0 } }

/-- The CGB registers whose write the spec does not model (R215). -/
def cgbUnmodelled (a : Addr) : Bool :=
  a.toNat == 0xFF4D || a.toNat == 0xFF4F || (decide (0xFF51 ≤ a.toNat) && decide (a.toNat ≤ 0xFF55))

/-- `IoWrite(a, v)` to a device outside the core (R214, R215). -/
def ioWrite (a : Addr) (v : Byte) (s : State) : Res Unit :=
  if s.params.cgbMode && cgbUnmodelled a then raise (.unmodelledWrite a) s
  else .ok () (s.record (.ioWrite a v))

/-- A write below 0x8000: the cartridge's registers, and a `Rumble` event (R233, R263). -/
def State.writeMbc (s : State) (a : Addr) (v : Byte) : State :=
  { s with cart := s.cart.writeReg a.toNat v, history := s.history ++ s.cart.rumbleEvents a.toNat v }

/-- `BusWrite(a, v)` (R202). -/
def busWrite (a : Addr) (v : Byte) (s : State) : Res Unit :=
  match s.locate a with
  | .rom _ => .ok () (s.writeMbc a v)
  | .vram off => .ok () ({ s with vram := videoStore s.vram off v s }).videoDrawn
  | .ext t => .ok () (extWrite t a v s)
  | .wram off => .ok () { s with wram := s.wram.write off v }
  | .echoFault => raise (.echoAccess a) s
  | .oam off => .ok () ({ s with oam := videoStore s.oam off v s }).videoDrawn
  | .prohibited => prohibitedWrite a s
  | .iflag => .ok () { s with iflag := v.extractLsb' 0 5 }
  | .dma => startDma v { s with dmaReg := v }
  | .svbk => .ok () { s with svbk := v.extractLsb' 0 3 }
  | .io => ioWrite a v s
  | .hram off => .ok () { s with hram := s.hram.write off v }
  | .ie => .ok () { s with ie := v }

/-! ## What an address holds, for statements -/

/-- The byte a bus read of the address gives where the answer is stored in the core; none where a draw, an invalid
access or a policy answers (R201 to R216). -/
def State.peek (s : State) (a : Addr) : Option Byte :=
  match s.locate a with
  | .rom off => some (s.rom.read off)
  | .vram off => if s.params.videoBusBlocking then none else some (s.vram.read off)
  | .ext (.ram off) => some (s.cartRam.read off)
  | .ext (.rtc r) => some (s.cart.rtcRead r)
  | .ext _ => none
  | .wram off => some (s.wram.read off)
  | .echoFault => none
  | .oam off => if s.params.videoBusBlocking then none else some (s.oam.read off)
  | .prohibited => none
  | .iflag => some (0b111#3 ++ s.iflag)
  | .dma => some s.dmaReg
  | .svbk => some (0b11111#5 ++ s.svbk)
  | .io => none
  | .hram off => some (s.hram.read off)
  | .ie => some s.ie

/-- What the core stores at a target: the byte, or MBC2's nibble; none where it stores nothing. -/
def State.stored (s : State) : Target → Option Byte
  | .rom off => some (s.rom.read off)
  | .vram off => some (s.vram.read off)
  | .ext (.ram off) => some (s.cartRam.read off)
  | .ext (.nibble off) => some (s.nram.read off)
  | .ext (.rtc r) => some (s.cart.rtcRead r)
  | .ext (.openBus _) => none
  | .ext .unselected => none
  | .wram off => some (s.wram.read off)
  | .echoFault => none
  | .oam off => some (s.oam.read off)
  | .prohibited => none
  | .iflag => some (0b111#3 ++ s.iflag)
  | .dma => some s.dmaReg
  | .svbk => some (0b11111#5 ++ s.svbk)
  | .io => none
  | .hram off => some (s.hram.read off)
  | .ie => some s.ie

/-- What the core stores at an address, read through the address decoder. -/
def State.heldAt (s : State) (a : Addr) : Option Byte := s.stored (s.locate a)

/-- Plain storage: a bus write stores the byte there and does nothing else, and a bus read gives it back (R220). -/
def State.plain (s : State) (a : Addr) : Bool :=
  match s.locate a with
  | .vram _ => !s.params.videoBusBlocking
  | .oam _ => !s.params.videoBusBlocking
  | .ext (.ram _) => true
  | .wram _ => true
  | .hram _ => true
  | _ => false

end Sys2Proof.Machine
end

