-- ==== Sys2Proof/Machine/Dma.lean ====
section
/-! DEFINITION. The DMA byte sequencer's ticks (spec 60_exceptions.md R650 to R655). -/

namespace Sys2Proof.Machine

/-- The address the next byte is read from: `DMA * DMA_SOURCE_STRIDE + dmaCount` (R652). -/
def State.dmaSource (s : State) : Addr :=
  BitVec.ofNat 16 (s.dmaReg.toNat * s.params.dmaSourceStride + s.dma.count)

/-- The copied byte always lands in OAM; the 160th ends the transfer (R652). -/
def State.dmaStore (s : State) (v : Byte) : State :=
  { s with
    oam := s.oam.write s.dma.count v
    dma := { s.dma with count := s.dma.count + 1, active := s.dma.count + 1 != dmaTransferSize } }

/-- One tick (R652). The read is the sequencer's own: no conflict check, but the decoder's policies and draws. -/
def dmaTick (s : State) : Res Unit :=
  if s.dma.active then
    if 0 < s.dma.delay then .ok () { s with dma := { s.dma with delay := s.dma.delay - 1 } }
    else (busRead s.dmaSource s).bind fun v s => .ok () (s.dmaStore v)
  else .ok () s

/-- `DmaTicks(n)` (R720); a fault abandons the remaining ticks (R600). -/
def dmaTicks : Nat → State → Res Unit
  | 0, s => .ok () s
  | n + 1, s => (dmaTick s).bind fun _ s => dmaTicks n s

end Sys2Proof.Machine
end

