-- ==== Sys2Proof/Machine/Env.lean ====
section
/-! DEFINITION. The environment's moves at a step boundary (spec 60_exceptions.md R611, R640, R690). -/

namespace Sys2Proof.Machine

/-- What one move changes (R690). -/
def EnvMove.apply (s : State) (m : EnvMove) : State :=
  match m with
  | .raiseInterrupt i => { s with iflag := s.iflag ||| (1#5 <<< i.val) }
  | .rtcTick => { s with cart := s.cart.rtcTick }
  | .wake => if s.mode = .stopped then { s with mode := .running } else s

/-- The moves of this boundary, in order, taken off the schedule. -/
def State.takeEnv (s : State) : State :=
  match s.schedule with
  | [] => s
  | moves :: rest => moves.foldl EnvMove.apply { s with schedule := rest }

end Sys2Proof.Machine
end

