-- ==== Sys2Proof/WellFormed.lean ====
section
/-! DEFINITION. Which terms of `Instr` are instructions a byte sequence can mean. -/

namespace Sys2Proof

/-- Every operand field has exactly its encoding's width, so the one ill-formed term is the bare prefix: "The prefix
byte 0xCB is not an instruction of its own" (46_misc.md R595), and its bytes mean the CB-table entry instead. -/
def Instr.wf : Instr → Bool
  | .prefixCb _ => false
  | _ => true

end Sys2Proof
end

