-- ==== Sys2Proof/Decode.lean ====
section
/-! DEFINITION. The decoder and, after it, the encoder (spec 30_encoding.md). Decoding is total on bytes (R311): the
illegal opcodes decode to constructors of their own, and the one rejection, by name, is a byte sequence that ends
before the instruction does. -/

namespace Sys2Proof

/-! ## The primary table (R305): one definition per row (the opcode's high nibble), one arm per column. `b1` and `b2`
are the bytes after the opcode; a 16-bit immediate is `{byte2, byte1}` (R303). -/

/-- Row 0x of the primary table (R305). -/
def decodeRow0 (lo : Nat) (b1 b2 : Byte) : Instr :=
  match lo with
  | 0x0 => .nop
  | 0x1 => .ldBcN16 (b2 ++ b1)
  | 0x2 => .ldIndBcA
  | 0x3 => .incBc
  | 0x4 => .incB
  | 0x5 => .decB
  | 0x6 => .ldBN8 b1
  | 0x7 => .rlca
  | 0x8 => .ldIndN16Sp (b2 ++ b1)
  | 0x9 => .addHlBc
  | 0xA => .ldAIndBc
  | 0xB => .decBc
  | 0xC => .incC
  | 0xD => .decC
  | 0xE => .ldCN8 b1
  | _ => .rrca

/-- Row 1x of the primary table (R305). -/
def decodeRow1 (lo : Nat) (b1 b2 : Byte) : Instr :=
  match lo with
  | 0x0 => .stop b1
  | 0x1 => .ldDeN16 (b2 ++ b1)
  | 0x2 => .ldIndDeA
  | 0x3 => .incDe
  | 0x4 => .incD
  | 0x5 => .decD
  | 0x6 => .ldDN8 b1
  | 0x7 => .rla
  | 0x8 => .jrE8 b1
  | 0x9 => .addHlDe
  | 0xA => .ldAIndDe
  | 0xB => .decDe
  | 0xC => .incE
  | 0xD => .decE
  | 0xE => .ldEN8 b1
  | _ => .rra

/-- Row 2x of the primary table (R305). -/
def decodeRow2 (lo : Nat) (b1 b2 : Byte) : Instr :=
  match lo with
  | 0x0 => .jrNzE8 b1
  | 0x1 => .ldHlN16 (b2 ++ b1)
  | 0x2 => .ldIndHlIncA
  | 0x3 => .incHl
  | 0x4 => .incH
  | 0x5 => .decH
  | 0x6 => .ldHN8 b1
  | 0x7 => .daa
  | 0x8 => .jrZE8 b1
  | 0x9 => .addHlHl
  | 0xA => .ldAIndHlInc
  | 0xB => .decHl
  | 0xC => .incL
  | 0xD => .decL
  | 0xE => .ldLN8 b1
  | _ => .cpl

/-- Row 3x of the primary table (R305). -/
def decodeRow3 (lo : Nat) (b1 b2 : Byte) : Instr :=
  match lo with
  | 0x0 => .jrNcE8 b1
  | 0x1 => .ldSpN16 (b2 ++ b1)
  | 0x2 => .ldIndHlDecA
  | 0x3 => .incSp
  | 0x4 => .incIndHl
  | 0x5 => .decIndHl
  | 0x6 => .ldIndHlN8 b1
  | 0x7 => .scf
  | 0x8 => .jrCE8 b1
  | 0x9 => .addHlSp
  | 0xA => .ldAIndHlDec
  | 0xB => .decSp
  | 0xC => .incA
  | 0xD => .decA
  | 0xE => .ldAN8 b1
  | _ => .ccf

/-- Row 4x of the primary table (R305). -/
def decodeRow4 (lo : Nat) (_b1 _b2 : Byte) : Instr :=
  match lo with
  | 0x0 => .ldBB
  | 0x1 => .ldBC
  | 0x2 => .ldBD
  | 0x3 => .ldBE
  | 0x4 => .ldBH
  | 0x5 => .ldBL
  | 0x6 => .ldBIndHl
  | 0x7 => .ldBA
  | 0x8 => .ldCB
  | 0x9 => .ldCC
  | 0xA => .ldCD
  | 0xB => .ldCE
  | 0xC => .ldCH
  | 0xD => .ldCL
  | 0xE => .ldCIndHl
  | _ => .ldCA

/-- Row 5x of the primary table (R305). -/
def decodeRow5 (lo : Nat) (_b1 _b2 : Byte) : Instr :=
  match lo with
  | 0x0 => .ldDB
  | 0x1 => .ldDC
  | 0x2 => .ldDD
  | 0x3 => .ldDE
  | 0x4 => .ldDH
  | 0x5 => .ldDL
  | 0x6 => .ldDIndHl
  | 0x7 => .ldDA
  | 0x8 => .ldEB
  | 0x9 => .ldEC
  | 0xA => .ldED
  | 0xB => .ldEE
  | 0xC => .ldEH
  | 0xD => .ldEL
  | 0xE => .ldEIndHl
  | _ => .ldEA

/-- Row 6x of the primary table (R305). -/
def decodeRow6 (lo : Nat) (_b1 _b2 : Byte) : Instr :=
  match lo with
  | 0x0 => .ldHB
  | 0x1 => .ldHC
  | 0x2 => .ldHD
  | 0x3 => .ldHE
  | 0x4 => .ldHH
  | 0x5 => .ldHL
  | 0x6 => .ldHIndHl
  | 0x7 => .ldHA
  | 0x8 => .ldLB
  | 0x9 => .ldLC
  | 0xA => .ldLD
  | 0xB => .ldLE
  | 0xC => .ldLH
  | 0xD => .ldLL
  | 0xE => .ldLIndHl
  | _ => .ldLA

/-- Row 7x of the primary table (R305). -/
def decodeRow7 (lo : Nat) (_b1 _b2 : Byte) : Instr :=
  match lo with
  | 0x0 => .ldIndHlB
  | 0x1 => .ldIndHlC
  | 0x2 => .ldIndHlD
  | 0x3 => .ldIndHlE
  | 0x4 => .ldIndHlH
  | 0x5 => .ldIndHlL
  | 0x6 => .halt
  | 0x7 => .ldIndHlA
  | 0x8 => .ldAB
  | 0x9 => .ldAC
  | 0xA => .ldAD
  | 0xB => .ldAE
  | 0xC => .ldAH
  | 0xD => .ldAL
  | 0xE => .ldAIndHl
  | _ => .ldAA

/-- Row 8x of the primary table (R305). -/
def decodeRow8 (lo : Nat) (_b1 _b2 : Byte) : Instr :=
  match lo with
  | 0x0 => .addAB
  | 0x1 => .addAC
  | 0x2 => .addAD
  | 0x3 => .addAE
  | 0x4 => .addAH
  | 0x5 => .addAL
  | 0x6 => .addAIndHl
  | 0x7 => .addAA
  | 0x8 => .adcAB
  | 0x9 => .adcAC
  | 0xA => .adcAD
  | 0xB => .adcAE
  | 0xC => .adcAH
  | 0xD => .adcAL
  | 0xE => .adcAIndHl
  | _ => .adcAA

/-- Row 9x of the primary table (R305). -/
def decodeRow9 (lo : Nat) (_b1 _b2 : Byte) : Instr :=
  match lo with
  | 0x0 => .subB
  | 0x1 => .subC
  | 0x2 => .subD
  | 0x3 => .subE
  | 0x4 => .subH
  | 0x5 => .subL
  | 0x6 => .subIndHl
  | 0x7 => .subA
  | 0x8 => .sbcAB
  | 0x9 => .sbcAC
  | 0xA => .sbcAD
  | 0xB => .sbcAE
  | 0xC => .sbcAH
  | 0xD => .sbcAL
  | 0xE => .sbcAIndHl
  | _ => .sbcAA

/-- Row Ax of the primary table (R305). -/
def decodeRowA (lo : Nat) (_b1 _b2 : Byte) : Instr :=
  match lo with
  | 0x0 => .andB
  | 0x1 => .andC
  | 0x2 => .andD
  | 0x3 => .andE
  | 0x4 => .andH
  | 0x5 => .andL
  | 0x6 => .andIndHl
  | 0x7 => .andA
  | 0x8 => .xorB
  | 0x9 => .xorC
  | 0xA => .xorD
  | 0xB => .xorE
  | 0xC => .xorH
  | 0xD => .xorL
  | 0xE => .xorIndHl
  | _ => .xorA

/-- Row Bx of the primary table (R305). -/
def decodeRowB (lo : Nat) (_b1 _b2 : Byte) : Instr :=
  match lo with
  | 0x0 => .orB
  | 0x1 => .orC
  | 0x2 => .orD
  | 0x3 => .orE
  | 0x4 => .orH
  | 0x5 => .orL
  | 0x6 => .orIndHl
  | 0x7 => .orA
  | 0x8 => .cpB
  | 0x9 => .cpC
  | 0xA => .cpD
  | 0xB => .cpE
  | 0xC => .cpH
  | 0xD => .cpL
  | 0xE => .cpIndHl
  | _ => .cpA

/-- Row Cx of the primary table (R305). -/
def decodeRowC (lo : Nat) (b1 b2 : Byte) : Instr :=
  match lo with
  | 0x0 => .retNz
  | 0x1 => .popBc
  | 0x2 => .jpNzN16 (b2 ++ b1)
  | 0x3 => .jpN16 (b2 ++ b1)
  | 0x4 => .callNzN16 (b2 ++ b1)
  | 0x5 => .pushBc
  | 0x6 => .addAN8 b1
  | 0x7 => .rst00
  | 0x8 => .retZ
  | 0x9 => .ret
  | 0xA => .jpZN16 (b2 ++ b1)
  | 0xB => .prefixCb b1
  | 0xC => .callZN16 (b2 ++ b1)
  | 0xD => .callN16 (b2 ++ b1)
  | 0xE => .adcAN8 b1
  | _ => .rst08

/-- Row Dx of the primary table (R305). -/
def decodeRowD (lo : Nat) (b1 b2 : Byte) : Instr :=
  match lo with
  | 0x0 => .retNc
  | 0x1 => .popDe
  | 0x2 => .jpNcN16 (b2 ++ b1)
  | 0x3 => .illegalD3
  | 0x4 => .callNcN16 (b2 ++ b1)
  | 0x5 => .pushDe
  | 0x6 => .subN8 b1
  | 0x7 => .rst10
  | 0x8 => .retC
  | 0x9 => .reti
  | 0xA => .jpCN16 (b2 ++ b1)
  | 0xB => .illegalDB
  | 0xC => .callCN16 (b2 ++ b1)
  | 0xD => .illegalDD
  | 0xE => .sbcAN8 b1
  | _ => .rst18

/-- Row Ex of the primary table (R305). -/
def decodeRowE (lo : Nat) (b1 b2 : Byte) : Instr :=
  match lo with
  | 0x0 => .ldhIndN8A b1
  | 0x1 => .popHl
  | 0x2 => .ldhIndCA
  | 0x3 => .illegalE3
  | 0x4 => .illegalE4
  | 0x5 => .pushHl
  | 0x6 => .andN8 b1
  | 0x7 => .rst20
  | 0x8 => .addSpE8 b1
  | 0x9 => .jpHl
  | 0xA => .ldIndN16A (b2 ++ b1)
  | 0xB => .illegalEB
  | 0xC => .illegalEC
  | 0xD => .illegalED
  | 0xE => .xorN8 b1
  | _ => .rst28

/-- Row Fx of the primary table (R305). -/
def decodeRowF (lo : Nat) (b1 b2 : Byte) : Instr :=
  match lo with
  | 0x0 => .ldhAIndN8 b1
  | 0x1 => .popAf
  | 0x2 => .ldhAIndC
  | 0x3 => .di
  | 0x4 => .illegalF4
  | 0x5 => .pushAf
  | 0x6 => .orN8 b1
  | 0x7 => .rst30
  | 0x8 => .ldHlSpE8 b1
  | 0x9 => .ldSpHl
  | 0xA => .ldAIndN16 (b2 ++ b1)
  | 0xB => .ei
  | 0xC => .illegalFC
  | 0xD => .illegalFD
  | 0xE => .cpN8 b1
  | _ => .rst38

/-- The primary-table entry of an opcode byte, with the bytes after it (R304, R305). -/
def decodePrimary (op b1 b2 : Byte) : Instr :=
  let lo := op.toNat % 16
  match op.toNat / 16 with
  | 0x0 => decodeRow0 lo b1 b2
  | 0x1 => decodeRow1 lo b1 b2
  | 0x2 => decodeRow2 lo b1 b2
  | 0x3 => decodeRow3 lo b1 b2
  | 0x4 => decodeRow4 lo b1 b2
  | 0x5 => decodeRow5 lo b1 b2
  | 0x6 => decodeRow6 lo b1 b2
  | 0x7 => decodeRow7 lo b1 b2
  | 0x8 => decodeRow8 lo b1 b2
  | 0x9 => decodeRow9 lo b1 b2
  | 0xA => decodeRowA lo b1 b2
  | 0xB => decodeRowB lo b1 b2
  | 0xC => decodeRowC lo b1 b2
  | 0xD => decodeRowD lo b1 b2
  | 0xE => decodeRowE lo b1 b2
  | _ => decodeRowF lo b1 b2

/-! ## The CB-prefixed table (R306), indexed by the second byte. -/

/-- Row 0x of the CB table (R306). -/
def decodeCbRow0 (lo : Nat) : Instr :=
  match lo with
  | 0x0 => .rlcB
  | 0x1 => .rlcC
  | 0x2 => .rlcD
  | 0x3 => .rlcE
  | 0x4 => .rlcH
  | 0x5 => .rlcL
  | 0x6 => .rlcIndHl
  | 0x7 => .rlcA
  | 0x8 => .rrcB
  | 0x9 => .rrcC
  | 0xA => .rrcD
  | 0xB => .rrcE
  | 0xC => .rrcH
  | 0xD => .rrcL
  | 0xE => .rrcIndHl
  | _ => .rrcA

/-- Row 1x of the CB table (R306). -/
def decodeCbRow1 (lo : Nat) : Instr :=
  match lo with
  | 0x0 => .rlB
  | 0x1 => .rlC
  | 0x2 => .rlD
  | 0x3 => .rlE
  | 0x4 => .rlH
  | 0x5 => .rlL
  | 0x6 => .rlIndHl
  | 0x7 => .rlA
  | 0x8 => .rrB
  | 0x9 => .rrC
  | 0xA => .rrD
  | 0xB => .rrE
  | 0xC => .rrH
  | 0xD => .rrL
  | 0xE => .rrIndHl
  | _ => .rrA

/-- Row 2x of the CB table (R306). -/
def decodeCbRow2 (lo : Nat) : Instr :=
  match lo with
  | 0x0 => .slaB
  | 0x1 => .slaC
  | 0x2 => .slaD
  | 0x3 => .slaE
  | 0x4 => .slaH
  | 0x5 => .slaL
  | 0x6 => .slaIndHl
  | 0x7 => .slaA
  | 0x8 => .sraB
  | 0x9 => .sraC
  | 0xA => .sraD
  | 0xB => .sraE
  | 0xC => .sraH
  | 0xD => .sraL
  | 0xE => .sraIndHl
  | _ => .sraA

/-- Row 3x of the CB table (R306). -/
def decodeCbRow3 (lo : Nat) : Instr :=
  match lo with
  | 0x0 => .swapB
  | 0x1 => .swapC
  | 0x2 => .swapD
  | 0x3 => .swapE
  | 0x4 => .swapH
  | 0x5 => .swapL
  | 0x6 => .swapIndHl
  | 0x7 => .swapA
  | 0x8 => .srlB
  | 0x9 => .srlC
  | 0xA => .srlD
  | 0xB => .srlE
  | 0xC => .srlH
  | 0xD => .srlL
  | 0xE => .srlIndHl
  | _ => .srlA

/-- Row 4x of the CB table (R306). -/
def decodeCbRow4 (lo : Nat) : Instr :=
  match lo with
  | 0x0 => .bit0B
  | 0x1 => .bit0C
  | 0x2 => .bit0D
  | 0x3 => .bit0E
  | 0x4 => .bit0H
  | 0x5 => .bit0L
  | 0x6 => .bit0IndHl
  | 0x7 => .bit0A
  | 0x8 => .bit1B
  | 0x9 => .bit1C
  | 0xA => .bit1D
  | 0xB => .bit1E
  | 0xC => .bit1H
  | 0xD => .bit1L
  | 0xE => .bit1IndHl
  | _ => .bit1A

/-- Row 5x of the CB table (R306). -/
def decodeCbRow5 (lo : Nat) : Instr :=
  match lo with
  | 0x0 => .bit2B
  | 0x1 => .bit2C
  | 0x2 => .bit2D
  | 0x3 => .bit2E
  | 0x4 => .bit2H
  | 0x5 => .bit2L
  | 0x6 => .bit2IndHl
  | 0x7 => .bit2A
  | 0x8 => .bit3B
  | 0x9 => .bit3C
  | 0xA => .bit3D
  | 0xB => .bit3E
  | 0xC => .bit3H
  | 0xD => .bit3L
  | 0xE => .bit3IndHl
  | _ => .bit3A

/-- Row 6x of the CB table (R306). -/
def decodeCbRow6 (lo : Nat) : Instr :=
  match lo with
  | 0x0 => .bit4B
  | 0x1 => .bit4C
  | 0x2 => .bit4D
  | 0x3 => .bit4E
  | 0x4 => .bit4H
  | 0x5 => .bit4L
  | 0x6 => .bit4IndHl
  | 0x7 => .bit4A
  | 0x8 => .bit5B
  | 0x9 => .bit5C
  | 0xA => .bit5D
  | 0xB => .bit5E
  | 0xC => .bit5H
  | 0xD => .bit5L
  | 0xE => .bit5IndHl
  | _ => .bit5A

/-- Row 7x of the CB table (R306). -/
def decodeCbRow7 (lo : Nat) : Instr :=
  match lo with
  | 0x0 => .bit6B
  | 0x1 => .bit6C
  | 0x2 => .bit6D
  | 0x3 => .bit6E
  | 0x4 => .bit6H
  | 0x5 => .bit6L
  | 0x6 => .bit6IndHl
  | 0x7 => .bit6A
  | 0x8 => .bit7B
  | 0x9 => .bit7C
  | 0xA => .bit7D
  | 0xB => .bit7E
  | 0xC => .bit7H
  | 0xD => .bit7L
  | 0xE => .bit7IndHl
  | _ => .bit7A

/-- Row 8x of the CB table (R306). -/
def decodeCbRow8 (lo : Nat) : Instr :=
  match lo with
  | 0x0 => .res0B
  | 0x1 => .res0C
  | 0x2 => .res0D
  | 0x3 => .res0E
  | 0x4 => .res0H
  | 0x5 => .res0L
  | 0x6 => .res0IndHl
  | 0x7 => .res0A
  | 0x8 => .res1B
  | 0x9 => .res1C
  | 0xA => .res1D
  | 0xB => .res1E
  | 0xC => .res1H
  | 0xD => .res1L
  | 0xE => .res1IndHl
  | _ => .res1A

/-- Row 9x of the CB table (R306). -/
def decodeCbRow9 (lo : Nat) : Instr :=
  match lo with
  | 0x0 => .res2B
  | 0x1 => .res2C
  | 0x2 => .res2D
  | 0x3 => .res2E
  | 0x4 => .res2H
  | 0x5 => .res2L
  | 0x6 => .res2IndHl
  | 0x7 => .res2A
  | 0x8 => .res3B
  | 0x9 => .res3C
  | 0xA => .res3D
  | 0xB => .res3E
  | 0xC => .res3H
  | 0xD => .res3L
  | 0xE => .res3IndHl
  | _ => .res3A

/-- Row Ax of the CB table (R306). -/
def decodeCbRowA (lo : Nat) : Instr :=
  match lo with
  | 0x0 => .res4B
  | 0x1 => .res4C
  | 0x2 => .res4D
  | 0x3 => .res4E
  | 0x4 => .res4H
  | 0x5 => .res4L
  | 0x6 => .res4IndHl
  | 0x7 => .res4A
  | 0x8 => .res5B
  | 0x9 => .res5C
  | 0xA => .res5D
  | 0xB => .res5E
  | 0xC => .res5H
  | 0xD => .res5L
  | 0xE => .res5IndHl
  | _ => .res5A

/-- Row Bx of the CB table (R306). -/
def decodeCbRowB (lo : Nat) : Instr :=
  match lo with
  | 0x0 => .res6B
  | 0x1 => .res6C
  | 0x2 => .res6D
  | 0x3 => .res6E
  | 0x4 => .res6H
  | 0x5 => .res6L
  | 0x6 => .res6IndHl
  | 0x7 => .res6A
  | 0x8 => .res7B
  | 0x9 => .res7C
  | 0xA => .res7D
  | 0xB => .res7E
  | 0xC => .res7H
  | 0xD => .res7L
  | 0xE => .res7IndHl
  | _ => .res7A

/-- Row Cx of the CB table (R306). -/
def decodeCbRowC (lo : Nat) : Instr :=
  match lo with
  | 0x0 => .set0B
  | 0x1 => .set0C
  | 0x2 => .set0D
  | 0x3 => .set0E
  | 0x4 => .set0H
  | 0x5 => .set0L
  | 0x6 => .set0IndHl
  | 0x7 => .set0A
  | 0x8 => .set1B
  | 0x9 => .set1C
  | 0xA => .set1D
  | 0xB => .set1E
  | 0xC => .set1H
  | 0xD => .set1L
  | 0xE => .set1IndHl
  | _ => .set1A

/-- Row Dx of the CB table (R306). -/
def decodeCbRowD (lo : Nat) : Instr :=
  match lo with
  | 0x0 => .set2B
  | 0x1 => .set2C
  | 0x2 => .set2D
  | 0x3 => .set2E
  | 0x4 => .set2H
  | 0x5 => .set2L
  | 0x6 => .set2IndHl
  | 0x7 => .set2A
  | 0x8 => .set3B
  | 0x9 => .set3C
  | 0xA => .set3D
  | 0xB => .set3E
  | 0xC => .set3H
  | 0xD => .set3L
  | 0xE => .set3IndHl
  | _ => .set3A

/-- Row Ex of the CB table (R306). -/
def decodeCbRowE (lo : Nat) : Instr :=
  match lo with
  | 0x0 => .set4B
  | 0x1 => .set4C
  | 0x2 => .set4D
  | 0x3 => .set4E
  | 0x4 => .set4H
  | 0x5 => .set4L
  | 0x6 => .set4IndHl
  | 0x7 => .set4A
  | 0x8 => .set5B
  | 0x9 => .set5C
  | 0xA => .set5D
  | 0xB => .set5E
  | 0xC => .set5H
  | 0xD => .set5L
  | 0xE => .set5IndHl
  | _ => .set5A

/-- Row Fx of the CB table (R306). -/
def decodeCbRowF (lo : Nat) : Instr :=
  match lo with
  | 0x0 => .set6B
  | 0x1 => .set6C
  | 0x2 => .set6D
  | 0x3 => .set6E
  | 0x4 => .set6H
  | 0x5 => .set6L
  | 0x6 => .set6IndHl
  | 0x7 => .set6A
  | 0x8 => .set7B
  | 0x9 => .set7C
  | 0xA => .set7D
  | 0xB => .set7E
  | 0xC => .set7H
  | 0xD => .set7L
  | 0xE => .set7IndHl
  | _ => .set7A

/-- The CB-table entry of the second opcode byte (R304, R306, R595). -/
def decodeCb (op2 : Byte) : Instr :=
  let lo := op2.toNat % 16
  match op2.toNat / 16 with
  | 0x0 => decodeCbRow0 lo
  | 0x1 => decodeCbRow1 lo
  | 0x2 => decodeCbRow2 lo
  | 0x3 => decodeCbRow3 lo
  | 0x4 => decodeCbRow4 lo
  | 0x5 => decodeCbRow5 lo
  | 0x6 => decodeCbRow6 lo
  | 0x7 => decodeCbRow7 lo
  | 0x8 => decodeCbRow8 lo
  | 0x9 => decodeCbRow9 lo
  | 0xA => decodeCbRowA lo
  | 0xB => decodeCbRowB lo
  | 0xC => decodeCbRowC lo
  | 0xD => decodeCbRowD lo
  | 0xE => decodeCbRowE lo
  | _ => decodeCbRowF lo

/-! ## Lengths and the decoding procedure (R300, R304) -/

/-- The prefix byte (R300). -/
def prefixByte : Byte := 0xCB

/-- The opcodes of format `op_n16`: three bytes (R300, R305). -/
def threeByteOps : List Byte :=
  [0x01, 0x08, 0x11, 0x21, 0x31, 0xC2, 0xC3, 0xC4, 0xCA,
   0xCC, 0xCD, 0xD2, 0xD4, 0xDA, 0xDC, 0xEA, 0xFA]

/-- The opcodes of formats `op_n8` and `op_e8`, and the prefix: two bytes (R300, R305). -/
def twoByteOps : List Byte :=
  [0x06, 0x0E, 0x10, 0x16, 0x18, 0x1E, 0x20, 0x26, 0x28, 0x2E, 0x30, 0x36, 0x38, 0x3E,
   0xC6, 0xCB, 0xCE, 0xD6, 0xDE, 0xE0, 0xE6, 0xE8, 0xEE, 0xF0, 0xF6, 0xF8, 0xFE]

/-- The length in bytes, "decided by its first byte alone" (R304). -/
def opLength (op : Byte) : Nat :=
  if op ∈ threeByteOps then 3 else if op ∈ twoByteOps then 2 else 1

/-- The instruction of an opcode byte and the two bytes after it (R304); a byte its length does not reach is unused. -/
def decodeOp (op b1 b2 : Byte) : Instr :=
  if op = prefixByte then decodeCb b1 else decodePrimary op b1 b2

/-- The outcome of decoding a byte sequence. -/
inductive Decoded where
  /-- An instruction, and the bytes after it. -/
  | ok (i : Instr) (rest : List Byte)
  /-- Rejected: the sequence ends before the instruction does. Every complete sequence decodes (R311). -/
  | truncated
  deriving DecidableEq, Repr

/-- Decode the instruction at the head of a byte sequence (R304). -/
def decode : List Byte → Decoded
  | [] => .truncated
  | op :: rest =>
    match opLength op, rest with
    | 1, _ => .ok (decodeOp op 0 0) rest
    | 2, b1 :: rest => .ok (decodeOp op b1 0) rest
    | 3, b1 :: b2 :: rest => .ok (decodeOp op b1 b2) rest
    | _, _ => .truncated

/-- The bytes of a 16-bit immediate as they stand in the instruction stream, low byte first (R218, R300). -/
def immBytes (n : Addr) : List Byte := [n.extractLsb' 0 8, n.extractLsb' 8 8]

/-- The bytes of an instruction, from the same tables (R300, R305, R306). -/
def encode : Instr → List Byte
  | .nop => [0x00]
  | .ldBcN16 n => 0x01 :: immBytes n
  | .ldIndBcA => [0x02]
  | .incBc => [0x03]
  | .incB => [0x04]
  | .decB => [0x05]
  | .ldBN8 n => [0x06, n]
  | .rlca => [0x07]
  | .ldIndN16Sp n => 0x08 :: immBytes n
  | .addHlBc => [0x09]
  | .ldAIndBc => [0x0A]
  | .decBc => [0x0B]
  | .incC => [0x0C]
  | .decC => [0x0D]
  | .ldCN8 n => [0x0E, n]
  | .rrca => [0x0F]
  | .stop n => [0x10, n]
  | .ldDeN16 n => 0x11 :: immBytes n
  | .ldIndDeA => [0x12]
  | .incDe => [0x13]
  | .incD => [0x14]
  | .decD => [0x15]
  | .ldDN8 n => [0x16, n]
  | .rla => [0x17]
  | .jrE8 e => [0x18, e]
  | .addHlDe => [0x19]
  | .ldAIndDe => [0x1A]
  | .decDe => [0x1B]
  | .incE => [0x1C]
  | .decE => [0x1D]
  | .ldEN8 n => [0x1E, n]
  | .rra => [0x1F]
  | .jrNzE8 e => [0x20, e]
  | .ldHlN16 n => 0x21 :: immBytes n
  | .ldIndHlIncA => [0x22]
  | .incHl => [0x23]
  | .incH => [0x24]
  | .decH => [0x25]
  | .ldHN8 n => [0x26, n]
  | .daa => [0x27]
  | .jrZE8 e => [0x28, e]
  | .addHlHl => [0x29]
  | .ldAIndHlInc => [0x2A]
  | .decHl => [0x2B]
  | .incL => [0x2C]
  | .decL => [0x2D]
  | .ldLN8 n => [0x2E, n]
  | .cpl => [0x2F]
  | .jrNcE8 e => [0x30, e]
  | .ldSpN16 n => 0x31 :: immBytes n
  | .ldIndHlDecA => [0x32]
  | .incSp => [0x33]
  | .incIndHl => [0x34]
  | .decIndHl => [0x35]
  | .ldIndHlN8 n => [0x36, n]
  | .scf => [0x37]
  | .jrCE8 e => [0x38, e]
  | .addHlSp => [0x39]
  | .ldAIndHlDec => [0x3A]
  | .decSp => [0x3B]
  | .incA => [0x3C]
  | .decA => [0x3D]
  | .ldAN8 n => [0x3E, n]
  | .ccf => [0x3F]
  | .ldBB => [0x40]
  | .ldBC => [0x41]
  | .ldBD => [0x42]
  | .ldBE => [0x43]
  | .ldBH => [0x44]
  | .ldBL => [0x45]
  | .ldBIndHl => [0x46]
  | .ldBA => [0x47]
  | .ldCB => [0x48]
  | .ldCC => [0x49]
  | .ldCD => [0x4A]
  | .ldCE => [0x4B]
  | .ldCH => [0x4C]
  | .ldCL => [0x4D]
  | .ldCIndHl => [0x4E]
  | .ldCA => [0x4F]
  | .ldDB => [0x50]
  | .ldDC => [0x51]
  | .ldDD => [0x52]
  | .ldDE => [0x53]
  | .ldDH => [0x54]
  | .ldDL => [0x55]
  | .ldDIndHl => [0x56]
  | .ldDA => [0x57]
  | .ldEB => [0x58]
  | .ldEC => [0x59]
  | .ldED => [0x5A]
  | .ldEE => [0x5B]
  | .ldEH => [0x5C]
  | .ldEL => [0x5D]
  | .ldEIndHl => [0x5E]
  | .ldEA => [0x5F]
  | .ldHB => [0x60]
  | .ldHC => [0x61]
  | .ldHD => [0x62]
  | .ldHE => [0x63]
  | .ldHH => [0x64]
  | .ldHL => [0x65]
  | .ldHIndHl => [0x66]
  | .ldHA => [0x67]
  | .ldLB => [0x68]
  | .ldLC => [0x69]
  | .ldLD => [0x6A]
  | .ldLE => [0x6B]
  | .ldLH => [0x6C]
  | .ldLL => [0x6D]
  | .ldLIndHl => [0x6E]
  | .ldLA => [0x6F]
  | .ldIndHlB => [0x70]
  | .ldIndHlC => [0x71]
  | .ldIndHlD => [0x72]
  | .ldIndHlE => [0x73]
  | .ldIndHlH => [0x74]
  | .ldIndHlL => [0x75]
  | .halt => [0x76]
  | .ldIndHlA => [0x77]
  | .ldAB => [0x78]
  | .ldAC => [0x79]
  | .ldAD => [0x7A]
  | .ldAE => [0x7B]
  | .ldAH => [0x7C]
  | .ldAL => [0x7D]
  | .ldAIndHl => [0x7E]
  | .ldAA => [0x7F]
  | .addAB => [0x80]
  | .addAC => [0x81]
  | .addAD => [0x82]
  | .addAE => [0x83]
  | .addAH => [0x84]
  | .addAL => [0x85]
  | .addAIndHl => [0x86]
  | .addAA => [0x87]
  | .adcAB => [0x88]
  | .adcAC => [0x89]
  | .adcAD => [0x8A]
  | .adcAE => [0x8B]
  | .adcAH => [0x8C]
  | .adcAL => [0x8D]
  | .adcAIndHl => [0x8E]
  | .adcAA => [0x8F]
  | .subB => [0x90]
  | .subC => [0x91]
  | .subD => [0x92]
  | .subE => [0x93]
  | .subH => [0x94]
  | .subL => [0x95]
  | .subIndHl => [0x96]
  | .subA => [0x97]
  | .sbcAB => [0x98]
  | .sbcAC => [0x99]
  | .sbcAD => [0x9A]
  | .sbcAE => [0x9B]
  | .sbcAH => [0x9C]
  | .sbcAL => [0x9D]
  | .sbcAIndHl => [0x9E]
  | .sbcAA => [0x9F]
  | .andB => [0xA0]
  | .andC => [0xA1]
  | .andD => [0xA2]
  | .andE => [0xA3]
  | .andH => [0xA4]
  | .andL => [0xA5]
  | .andIndHl => [0xA6]
  | .andA => [0xA7]
  | .xorB => [0xA8]
  | .xorC => [0xA9]
  | .xorD => [0xAA]
  | .xorE => [0xAB]
  | .xorH => [0xAC]
  | .xorL => [0xAD]
  | .xorIndHl => [0xAE]
  | .xorA => [0xAF]
  | .orB => [0xB0]
  | .orC => [0xB1]
  | .orD => [0xB2]
  | .orE => [0xB3]
  | .orH => [0xB4]
  | .orL => [0xB5]
  | .orIndHl => [0xB6]
  | .orA => [0xB7]
  | .cpB => [0xB8]
  | .cpC => [0xB9]
  | .cpD => [0xBA]
  | .cpE => [0xBB]
  | .cpH => [0xBC]
  | .cpL => [0xBD]
  | .cpIndHl => [0xBE]
  | .cpA => [0xBF]
  | .retNz => [0xC0]
  | .popBc => [0xC1]
  | .jpNzN16 n => 0xC2 :: immBytes n
  | .jpN16 n => 0xC3 :: immBytes n
  | .callNzN16 n => 0xC4 :: immBytes n
  | .pushBc => [0xC5]
  | .addAN8 n => [0xC6, n]
  | .rst00 => [0xC7]
  | .retZ => [0xC8]
  | .ret => [0xC9]
  | .jpZN16 n => 0xCA :: immBytes n
  | .prefixCb op2 => [0xCB, op2]
  | .callZN16 n => 0xCC :: immBytes n
  | .callN16 n => 0xCD :: immBytes n
  | .adcAN8 n => [0xCE, n]
  | .rst08 => [0xCF]
  | .retNc => [0xD0]
  | .popDe => [0xD1]
  | .jpNcN16 n => 0xD2 :: immBytes n
  | .illegalD3 => [0xD3]
  | .callNcN16 n => 0xD4 :: immBytes n
  | .pushDe => [0xD5]
  | .subN8 n => [0xD6, n]
  | .rst10 => [0xD7]
  | .retC => [0xD8]
  | .reti => [0xD9]
  | .jpCN16 n => 0xDA :: immBytes n
  | .illegalDB => [0xDB]
  | .callCN16 n => 0xDC :: immBytes n
  | .illegalDD => [0xDD]
  | .sbcAN8 n => [0xDE, n]
  | .rst18 => [0xDF]
  | .ldhIndN8A n => [0xE0, n]
  | .popHl => [0xE1]
  | .ldhIndCA => [0xE2]
  | .illegalE3 => [0xE3]
  | .illegalE4 => [0xE4]
  | .pushHl => [0xE5]
  | .andN8 n => [0xE6, n]
  | .rst20 => [0xE7]
  | .addSpE8 e => [0xE8, e]
  | .jpHl => [0xE9]
  | .ldIndN16A n => 0xEA :: immBytes n
  | .illegalEB => [0xEB]
  | .illegalEC => [0xEC]
  | .illegalED => [0xED]
  | .xorN8 n => [0xEE, n]
  | .rst28 => [0xEF]
  | .ldhAIndN8 n => [0xF0, n]
  | .popAf => [0xF1]
  | .ldhAIndC => [0xF2]
  | .di => [0xF3]
  | .illegalF4 => [0xF4]
  | .pushAf => [0xF5]
  | .orN8 n => [0xF6, n]
  | .rst30 => [0xF7]
  | .ldHlSpE8 e => [0xF8, e]
  | .ldSpHl => [0xF9]
  | .ldAIndN16 n => 0xFA :: immBytes n
  | .ei => [0xFB]
  | .illegalFC => [0xFC]
  | .illegalFD => [0xFD]
  | .cpN8 n => [0xFE, n]
  | .rst38 => [0xFF]
  | .rlcB => [0xCB, 0x00]
  | .rlcC => [0xCB, 0x01]
  | .rlcD => [0xCB, 0x02]
  | .rlcE => [0xCB, 0x03]
  | .rlcH => [0xCB, 0x04]
  | .rlcL => [0xCB, 0x05]
  | .rlcIndHl => [0xCB, 0x06]
  | .rlcA => [0xCB, 0x07]
  | .rrcB => [0xCB, 0x08]
  | .rrcC => [0xCB, 0x09]
  | .rrcD => [0xCB, 0x0A]
  | .rrcE => [0xCB, 0x0B]
  | .rrcH => [0xCB, 0x0C]
  | .rrcL => [0xCB, 0x0D]
  | .rrcIndHl => [0xCB, 0x0E]
  | .rrcA => [0xCB, 0x0F]
  | .rlB => [0xCB, 0x10]
  | .rlC => [0xCB, 0x11]
  | .rlD => [0xCB, 0x12]
  | .rlE => [0xCB, 0x13]
  | .rlH => [0xCB, 0x14]
  | .rlL => [0xCB, 0x15]
  | .rlIndHl => [0xCB, 0x16]
  | .rlA => [0xCB, 0x17]
  | .rrB => [0xCB, 0x18]
  | .rrC => [0xCB, 0x19]
  | .rrD => [0xCB, 0x1A]
  | .rrE => [0xCB, 0x1B]
  | .rrH => [0xCB, 0x1C]
  | .rrL => [0xCB, 0x1D]
  | .rrIndHl => [0xCB, 0x1E]
  | .rrA => [0xCB, 0x1F]
  | .slaB => [0xCB, 0x20]
  | .slaC => [0xCB, 0x21]
  | .slaD => [0xCB, 0x22]
  | .slaE => [0xCB, 0x23]
  | .slaH => [0xCB, 0x24]
  | .slaL => [0xCB, 0x25]
  | .slaIndHl => [0xCB, 0x26]
  | .slaA => [0xCB, 0x27]
  | .sraB => [0xCB, 0x28]
  | .sraC => [0xCB, 0x29]
  | .sraD => [0xCB, 0x2A]
  | .sraE => [0xCB, 0x2B]
  | .sraH => [0xCB, 0x2C]
  | .sraL => [0xCB, 0x2D]
  | .sraIndHl => [0xCB, 0x2E]
  | .sraA => [0xCB, 0x2F]
  | .swapB => [0xCB, 0x30]
  | .swapC => [0xCB, 0x31]
  | .swapD => [0xCB, 0x32]
  | .swapE => [0xCB, 0x33]
  | .swapH => [0xCB, 0x34]
  | .swapL => [0xCB, 0x35]
  | .swapIndHl => [0xCB, 0x36]
  | .swapA => [0xCB, 0x37]
  | .srlB => [0xCB, 0x38]
  | .srlC => [0xCB, 0x39]
  | .srlD => [0xCB, 0x3A]
  | .srlE => [0xCB, 0x3B]
  | .srlH => [0xCB, 0x3C]
  | .srlL => [0xCB, 0x3D]
  | .srlIndHl => [0xCB, 0x3E]
  | .srlA => [0xCB, 0x3F]
  | .bit0B => [0xCB, 0x40]
  | .bit0C => [0xCB, 0x41]
  | .bit0D => [0xCB, 0x42]
  | .bit0E => [0xCB, 0x43]
  | .bit0H => [0xCB, 0x44]
  | .bit0L => [0xCB, 0x45]
  | .bit0IndHl => [0xCB, 0x46]
  | .bit0A => [0xCB, 0x47]
  | .bit1B => [0xCB, 0x48]
  | .bit1C => [0xCB, 0x49]
  | .bit1D => [0xCB, 0x4A]
  | .bit1E => [0xCB, 0x4B]
  | .bit1H => [0xCB, 0x4C]
  | .bit1L => [0xCB, 0x4D]
  | .bit1IndHl => [0xCB, 0x4E]
  | .bit1A => [0xCB, 0x4F]
  | .bit2B => [0xCB, 0x50]
  | .bit2C => [0xCB, 0x51]
  | .bit2D => [0xCB, 0x52]
  | .bit2E => [0xCB, 0x53]
  | .bit2H => [0xCB, 0x54]
  | .bit2L => [0xCB, 0x55]
  | .bit2IndHl => [0xCB, 0x56]
  | .bit2A => [0xCB, 0x57]
  | .bit3B => [0xCB, 0x58]
  | .bit3C => [0xCB, 0x59]
  | .bit3D => [0xCB, 0x5A]
  | .bit3E => [0xCB, 0x5B]
  | .bit3H => [0xCB, 0x5C]
  | .bit3L => [0xCB, 0x5D]
  | .bit3IndHl => [0xCB, 0x5E]
  | .bit3A => [0xCB, 0x5F]
  | .bit4B => [0xCB, 0x60]
  | .bit4C => [0xCB, 0x61]
  | .bit4D => [0xCB, 0x62]
  | .bit4E => [0xCB, 0x63]
  | .bit4H => [0xCB, 0x64]
  | .bit4L => [0xCB, 0x65]
  | .bit4IndHl => [0xCB, 0x66]
  | .bit4A => [0xCB, 0x67]
  | .bit5B => [0xCB, 0x68]
  | .bit5C => [0xCB, 0x69]
  | .bit5D => [0xCB, 0x6A]
  | .bit5E => [0xCB, 0x6B]
  | .bit5H => [0xCB, 0x6C]
  | .bit5L => [0xCB, 0x6D]
  | .bit5IndHl => [0xCB, 0x6E]
  | .bit5A => [0xCB, 0x6F]
  | .bit6B => [0xCB, 0x70]
  | .bit6C => [0xCB, 0x71]
  | .bit6D => [0xCB, 0x72]
  | .bit6E => [0xCB, 0x73]
  | .bit6H => [0xCB, 0x74]
  | .bit6L => [0xCB, 0x75]
  | .bit6IndHl => [0xCB, 0x76]
  | .bit6A => [0xCB, 0x77]
  | .bit7B => [0xCB, 0x78]
  | .bit7C => [0xCB, 0x79]
  | .bit7D => [0xCB, 0x7A]
  | .bit7E => [0xCB, 0x7B]
  | .bit7H => [0xCB, 0x7C]
  | .bit7L => [0xCB, 0x7D]
  | .bit7IndHl => [0xCB, 0x7E]
  | .bit7A => [0xCB, 0x7F]
  | .res0B => [0xCB, 0x80]
  | .res0C => [0xCB, 0x81]
  | .res0D => [0xCB, 0x82]
  | .res0E => [0xCB, 0x83]
  | .res0H => [0xCB, 0x84]
  | .res0L => [0xCB, 0x85]
  | .res0IndHl => [0xCB, 0x86]
  | .res0A => [0xCB, 0x87]
  | .res1B => [0xCB, 0x88]
  | .res1C => [0xCB, 0x89]
  | .res1D => [0xCB, 0x8A]
  | .res1E => [0xCB, 0x8B]
  | .res1H => [0xCB, 0x8C]
  | .res1L => [0xCB, 0x8D]
  | .res1IndHl => [0xCB, 0x8E]
  | .res1A => [0xCB, 0x8F]
  | .res2B => [0xCB, 0x90]
  | .res2C => [0xCB, 0x91]
  | .res2D => [0xCB, 0x92]
  | .res2E => [0xCB, 0x93]
  | .res2H => [0xCB, 0x94]
  | .res2L => [0xCB, 0x95]
  | .res2IndHl => [0xCB, 0x96]
  | .res2A => [0xCB, 0x97]
  | .res3B => [0xCB, 0x98]
  | .res3C => [0xCB, 0x99]
  | .res3D => [0xCB, 0x9A]
  | .res3E => [0xCB, 0x9B]
  | .res3H => [0xCB, 0x9C]
  | .res3L => [0xCB, 0x9D]
  | .res3IndHl => [0xCB, 0x9E]
  | .res3A => [0xCB, 0x9F]
  | .res4B => [0xCB, 0xA0]
  | .res4C => [0xCB, 0xA1]
  | .res4D => [0xCB, 0xA2]
  | .res4E => [0xCB, 0xA3]
  | .res4H => [0xCB, 0xA4]
  | .res4L => [0xCB, 0xA5]
  | .res4IndHl => [0xCB, 0xA6]
  | .res4A => [0xCB, 0xA7]
  | .res5B => [0xCB, 0xA8]
  | .res5C => [0xCB, 0xA9]
  | .res5D => [0xCB, 0xAA]
  | .res5E => [0xCB, 0xAB]
  | .res5H => [0xCB, 0xAC]
  | .res5L => [0xCB, 0xAD]
  | .res5IndHl => [0xCB, 0xAE]
  | .res5A => [0xCB, 0xAF]
  | .res6B => [0xCB, 0xB0]
  | .res6C => [0xCB, 0xB1]
  | .res6D => [0xCB, 0xB2]
  | .res6E => [0xCB, 0xB3]
  | .res6H => [0xCB, 0xB4]
  | .res6L => [0xCB, 0xB5]
  | .res6IndHl => [0xCB, 0xB6]
  | .res6A => [0xCB, 0xB7]
  | .res7B => [0xCB, 0xB8]
  | .res7C => [0xCB, 0xB9]
  | .res7D => [0xCB, 0xBA]
  | .res7E => [0xCB, 0xBB]
  | .res7H => [0xCB, 0xBC]
  | .res7L => [0xCB, 0xBD]
  | .res7IndHl => [0xCB, 0xBE]
  | .res7A => [0xCB, 0xBF]
  | .set0B => [0xCB, 0xC0]
  | .set0C => [0xCB, 0xC1]
  | .set0D => [0xCB, 0xC2]
  | .set0E => [0xCB, 0xC3]
  | .set0H => [0xCB, 0xC4]
  | .set0L => [0xCB, 0xC5]
  | .set0IndHl => [0xCB, 0xC6]
  | .set0A => [0xCB, 0xC7]
  | .set1B => [0xCB, 0xC8]
  | .set1C => [0xCB, 0xC9]
  | .set1D => [0xCB, 0xCA]
  | .set1E => [0xCB, 0xCB]
  | .set1H => [0xCB, 0xCC]
  | .set1L => [0xCB, 0xCD]
  | .set1IndHl => [0xCB, 0xCE]
  | .set1A => [0xCB, 0xCF]
  | .set2B => [0xCB, 0xD0]
  | .set2C => [0xCB, 0xD1]
  | .set2D => [0xCB, 0xD2]
  | .set2E => [0xCB, 0xD3]
  | .set2H => [0xCB, 0xD4]
  | .set2L => [0xCB, 0xD5]
  | .set2IndHl => [0xCB, 0xD6]
  | .set2A => [0xCB, 0xD7]
  | .set3B => [0xCB, 0xD8]
  | .set3C => [0xCB, 0xD9]
  | .set3D => [0xCB, 0xDA]
  | .set3E => [0xCB, 0xDB]
  | .set3H => [0xCB, 0xDC]
  | .set3L => [0xCB, 0xDD]
  | .set3IndHl => [0xCB, 0xDE]
  | .set3A => [0xCB, 0xDF]
  | .set4B => [0xCB, 0xE0]
  | .set4C => [0xCB, 0xE1]
  | .set4D => [0xCB, 0xE2]
  | .set4E => [0xCB, 0xE3]
  | .set4H => [0xCB, 0xE4]
  | .set4L => [0xCB, 0xE5]
  | .set4IndHl => [0xCB, 0xE6]
  | .set4A => [0xCB, 0xE7]
  | .set5B => [0xCB, 0xE8]
  | .set5C => [0xCB, 0xE9]
  | .set5D => [0xCB, 0xEA]
  | .set5E => [0xCB, 0xEB]
  | .set5H => [0xCB, 0xEC]
  | .set5L => [0xCB, 0xED]
  | .set5IndHl => [0xCB, 0xEE]
  | .set5A => [0xCB, 0xEF]
  | .set6B => [0xCB, 0xF0]
  | .set6C => [0xCB, 0xF1]
  | .set6D => [0xCB, 0xF2]
  | .set6E => [0xCB, 0xF3]
  | .set6H => [0xCB, 0xF4]
  | .set6L => [0xCB, 0xF5]
  | .set6IndHl => [0xCB, 0xF6]
  | .set6A => [0xCB, 0xF7]
  | .set7B => [0xCB, 0xF8]
  | .set7C => [0xCB, 0xF9]
  | .set7D => [0xCB, 0xFA]
  | .set7E => [0xCB, 0xFB]
  | .set7H => [0xCB, 0xFC]
  | .set7L => [0xCB, 0xFD]
  | .set7IndHl => [0xCB, 0xFE]
  | .set7A => [0xCB, 0xFF]

/-! ## The opcode table's words -/

/-- The bytes, in memory order, of an instruction whose bits are `w`, `nbits` of them, followed by zero bytes up to
the longest instruction. The table numbers a primary row's 8 bits plainly and a prefixed row's two bytes "as one 16-bit
value, first byte high" (30_encoding.md, preamble), so a 16-bit word whose high byte is the prefix is laid out high
byte first; any other word is laid out low byte first (log entry 6). -/
def tableBytes (nbits w : Nat) : List Byte :=
  let byte (k : Nat) : Byte := BitVec.ofNat 8 (w >>> (8 * k))
  if nbits ≤ 8 then [byte 0, 0, 0]
  else if nbits ≤ 16 then
    if byte 1 = prefixByte then [byte 1, byte 0, 0] else [byte 0, byte 1, 0]
  else [byte 0, byte 1, byte 2]

/-- What the decoder reads from a word of the opcode table. An 8-bit word is an entry of the primary table, and the
entry of 0xCB there is the prefix itself (R305), here with a zero second byte; every other word is decoded as a byte
sequence. -/
def decodeTableWord (nbits w : Nat) : Option Instr :=
  match tableBytes nbits w with
  | op :: b1 :: b2 :: _ =>
    if nbits ≤ 8 then some (decodePrimary op b1 b2)
    else match decode [op, b1, b2] with
      | .ok i _ => some i
      | .truncated => none
  | _ => none

/-! ## Operand codes and families (R301, R302, R307): the constructors of one family by operand, in the code order of
R301, so that a statement can speak of a whole family at once and a test can check the tables above against R307. -/

/-- The entry of code `k` among eight. -/
def pick8 {α : Type} (k : Fin 8) (x0 x1 x2 x3 x4 x5 x6 x7 : α) : α :=
  match k.val with
  | 0 => x0
  | 1 => x1
  | 2 => x2
  | 3 => x3
  | 4 => x4
  | 5 => x5
  | 6 => x6
  | _ => x7

/-- The operand of `r` code k (R301). -/
def Opd.ofCode (k : Fin 8) : Opd :=
  pick8 k (.reg .b) (.reg .c) (.reg .d) (.reg .e) (.reg .h) (.reg .l) .indHl (.reg .a)

/-- The ALU operation of code y (R301). -/
def AluOp.ofCode (k : Fin 8) : AluOp := pick8 k .add .adc .sub .sbc .and .xor .or .cp

/-- The prefixed rotate or shift of code y (R301). -/
def ShiftOp.ofCode (k : Fin 8) : ShiftOp := pick8 k .rlc .rrc .rl .rr .sla .sra .swap .srl

/-- The three-bit field of a byte that starts at bit `lo` (R301: y at 3, z at 0). -/
def field3 (op : Byte) (lo : Nat) : Fin 8 := (op.extractLsb' lo 3).toFin

/-- The `r` code of a register (R301). -/
def R8.code : R8 → BitVec 3
  | .b => 0
  | .c => 1
  | .d => 2
  | .e => 3
  | .h => 4
  | .l => 5
  | .a => 7

/-- The `r` code of an operand; 6 is the byte at HL (R301). -/
def Opd.code : Opd → BitVec 3
  | .reg r => r.code
  | .indHl => 6

/-- The `rr` code of the LD/INC/DEC/ADD group (R301). -/
def Pair.code : Pair → BitVec 2
  | .bc => 0
  | .de => 1
  | .hl => 2
  | .sp => 3

/-- The `rr` code of the PUSH/POP group; 3 is AF (R301). -/
def StackPair.code : StackPair → BitVec 2
  | .bc => 0
  | .de => 1
  | .hl => 2

/-- The `cc` code (R301). -/
def Cond.code : Cond → BitVec 2
  | .nz => 0
  | .z => 1
  | .nc => 2
  | .c => 3

/-- The ALU code y (R301). -/
def AluOp.code : AluOp → BitVec 3
  | .add => 0
  | .adc => 1
  | .sub => 2
  | .sbc => 3
  | .and => 4
  | .xor => 5
  | .or => 6
  | .cp => 7

/-- The rotate and shift code y of the prefixed table (R301). -/
def ShiftOp.code : ShiftOp → BitVec 3
  | .rlc => 0
  | .rrc => 1
  | .rl => 2
  | .rr => 3
  | .sla => 4
  | .sra => 5
  | .swap => 6
  | .srl => 7

/-- LD r, r' (R400). -/
def Instr.ldRR : R8 → R8 → Instr
  | .b, .b => .ldBB
  | .b, .c => .ldBC
  | .b, .d => .ldBD
  | .b, .e => .ldBE
  | .b, .h => .ldBH
  | .b, .l => .ldBL
  | .b, .a => .ldBA
  | .c, .b => .ldCB
  | .c, .c => .ldCC
  | .c, .d => .ldCD
  | .c, .e => .ldCE
  | .c, .h => .ldCH
  | .c, .l => .ldCL
  | .c, .a => .ldCA
  | .d, .b => .ldDB
  | .d, .c => .ldDC
  | .d, .d => .ldDD
  | .d, .e => .ldDE
  | .d, .h => .ldDH
  | .d, .l => .ldDL
  | .d, .a => .ldDA
  | .e, .b => .ldEB
  | .e, .c => .ldEC
  | .e, .d => .ldED
  | .e, .e => .ldEE
  | .e, .h => .ldEH
  | .e, .l => .ldEL
  | .e, .a => .ldEA
  | .h, .b => .ldHB
  | .h, .c => .ldHC
  | .h, .d => .ldHD
  | .h, .e => .ldHE
  | .h, .h => .ldHH
  | .h, .l => .ldHL
  | .h, .a => .ldHA
  | .l, .b => .ldLB
  | .l, .c => .ldLC
  | .l, .d => .ldLD
  | .l, .e => .ldLE
  | .l, .h => .ldLH
  | .l, .l => .ldLL
  | .l, .a => .ldLA
  | .a, .b => .ldAB
  | .a, .c => .ldAC
  | .a, .d => .ldAD
  | .a, .e => .ldAE
  | .a, .h => .ldAH
  | .a, .l => .ldAL
  | .a, .a => .ldAA

/-- LD r, n8 (R401). -/
def Instr.ldRN : R8 → Byte → Instr
  | .b, n => .ldBN8 n
  | .c, n => .ldCN8 n
  | .d, n => .ldDN8 n
  | .e, n => .ldEN8 n
  | .h, n => .ldHN8 n
  | .l, n => .ldLN8 n
  | .a, n => .ldAN8 n

/-- LD r, (HL) (R402). -/
def Instr.ldRIndHl : R8 → Instr
  | .b => .ldBIndHl
  | .c => .ldCIndHl
  | .d => .ldDIndHl
  | .e => .ldEIndHl
  | .h => .ldHIndHl
  | .l => .ldLIndHl
  | .a => .ldAIndHl

/-- LD (HL), r (R403). -/
def Instr.ldIndHlR : R8 → Instr
  | .b => .ldIndHlB
  | .c => .ldIndHlC
  | .d => .ldIndHlD
  | .e => .ldIndHlE
  | .h => .ldIndHlH
  | .l => .ldIndHlL
  | .a => .ldIndHlA

/-- The 8-bit ALU on a register or (HL) (R450: forms r and (HL)). -/
def Instr.aluO : AluOp → Opd → Instr
  | .add, .reg .b => .addAB
  | .add, .reg .c => .addAC
  | .add, .reg .d => .addAD
  | .add, .reg .e => .addAE
  | .add, .reg .h => .addAH
  | .add, .reg .l => .addAL
  | .add, .indHl => .addAIndHl
  | .add, .reg .a => .addAA
  | .adc, .reg .b => .adcAB
  | .adc, .reg .c => .adcAC
  | .adc, .reg .d => .adcAD
  | .adc, .reg .e => .adcAE
  | .adc, .reg .h => .adcAH
  | .adc, .reg .l => .adcAL
  | .adc, .indHl => .adcAIndHl
  | .adc, .reg .a => .adcAA
  | .sub, .reg .b => .subB
  | .sub, .reg .c => .subC
  | .sub, .reg .d => .subD
  | .sub, .reg .e => .subE
  | .sub, .reg .h => .subH
  | .sub, .reg .l => .subL
  | .sub, .indHl => .subIndHl
  | .sub, .reg .a => .subA
  | .sbc, .reg .b => .sbcAB
  | .sbc, .reg .c => .sbcAC
  | .sbc, .reg .d => .sbcAD
  | .sbc, .reg .e => .sbcAE
  | .sbc, .reg .h => .sbcAH
  | .sbc, .reg .l => .sbcAL
  | .sbc, .indHl => .sbcAIndHl
  | .sbc, .reg .a => .sbcAA
  | .and, .reg .b => .andB
  | .and, .reg .c => .andC
  | .and, .reg .d => .andD
  | .and, .reg .e => .andE
  | .and, .reg .h => .andH
  | .and, .reg .l => .andL
  | .and, .indHl => .andIndHl
  | .and, .reg .a => .andA
  | .xor, .reg .b => .xorB
  | .xor, .reg .c => .xorC
  | .xor, .reg .d => .xorD
  | .xor, .reg .e => .xorE
  | .xor, .reg .h => .xorH
  | .xor, .reg .l => .xorL
  | .xor, .indHl => .xorIndHl
  | .xor, .reg .a => .xorA
  | .or, .reg .b => .orB
  | .or, .reg .c => .orC
  | .or, .reg .d => .orD
  | .or, .reg .e => .orE
  | .or, .reg .h => .orH
  | .or, .reg .l => .orL
  | .or, .indHl => .orIndHl
  | .or, .reg .a => .orA
  | .cp, .reg .b => .cpB
  | .cp, .reg .c => .cpC
  | .cp, .reg .d => .cpD
  | .cp, .reg .e => .cpE
  | .cp, .reg .h => .cpH
  | .cp, .reg .l => .cpL
  | .cp, .indHl => .cpIndHl
  | .cp, .reg .a => .cpA

/-- The 8-bit ALU on an immediate (R450: form n8). -/
def Instr.aluN : AluOp → Byte → Instr
  | .add, n => .addAN8 n
  | .adc, n => .adcAN8 n
  | .sub, n => .subN8 n
  | .sbc, n => .sbcAN8 n
  | .and, n => .andN8 n
  | .xor, n => .xorN8 n
  | .or, n => .orN8 n
  | .cp, n => .cpN8 n

/-- INC r and INC (HL) (R484, R485). -/
def Instr.incO : Opd → Instr
  | .reg .b => .incB
  | .reg .c => .incC
  | .reg .d => .incD
  | .reg .e => .incE
  | .reg .h => .incH
  | .reg .l => .incL
  | .indHl => .incIndHl
  | .reg .a => .incA

/-- DEC r and DEC (HL) (R486, R487). -/
def Instr.decO : Opd → Instr
  | .reg .b => .decB
  | .reg .c => .decC
  | .reg .d => .decD
  | .reg .e => .decE
  | .reg .h => .decH
  | .reg .l => .decL
  | .indHl => .decIndHl
  | .reg .a => .decA

/-- LD rr, n16 (R430). -/
def Instr.ldPairN : Pair → Addr → Instr
  | .bc, n => .ldBcN16 n
  | .de, n => .ldDeN16 n
  | .hl, n => .ldHlN16 n
  | .sp, n => .ldSpN16 n

/-- INC rr (R500). -/
def Instr.incPair : Pair → Instr
  | .bc => .incBc
  | .de => .incDe
  | .hl => .incHl
  | .sp => .incSp

/-- DEC rr (R501). -/
def Instr.decPair : Pair → Instr
  | .bc => .decBc
  | .de => .decDe
  | .hl => .decHl
  | .sp => .decSp

/-- ADD HL, rr (R502). -/
def Instr.addHl : Pair → Instr
  | .bc => .addHlBc
  | .de => .addHlDe
  | .hl => .addHlHl
  | .sp => .addHlSp

/-- PUSH rr (R433). -/
def Instr.push : StackPair → Instr
  | .bc => .pushBc
  | .de => .pushDe
  | .hl => .pushHl

/-- POP rr (R436). -/
def Instr.pop : StackPair → Instr
  | .bc => .popBc
  | .de => .popDe
  | .hl => .popHl

/-- JP cc, n16 (R562). -/
def Instr.jpCc : Cond → Addr → Instr
  | .nz, n => .jpNzN16 n
  | .z, n => .jpZN16 n
  | .nc, n => .jpNcN16 n
  | .c, n => .jpCN16 n

/-- JR cc, e8 (R564). -/
def Instr.jrCc : Cond → Byte → Instr
  | .nz, e => .jrNzE8 e
  | .z, e => .jrZE8 e
  | .nc, e => .jrNcE8 e
  | .c, e => .jrCE8 e

/-- CALL cc, n16 (R566). -/
def Instr.callCc : Cond → Addr → Instr
  | .nz, n => .callNzN16 n
  | .z, n => .callZN16 n
  | .nc, n => .callNcN16 n
  | .c, n => .callCN16 n

/-- RET cc (R568). -/
def Instr.retCc : Cond → Instr
  | .nz => .retNz
  | .z => .retZ
  | .nc => .retNc
  | .c => .retC

/-- RST y*8 (R569). -/
def Instr.rst (y : Fin 8) : Instr :=
  pick8 y .rst00 .rst08 .rst10 .rst18 .rst20 .rst28 .rst30 .rst38

/-- The prefixed rotates, shifts and SWAP (R524 to R539). -/
def Instr.shiftO : ShiftOp → Opd → Instr
  | .rlc, .reg .b => .rlcB
  | .rlc, .reg .c => .rlcC
  | .rlc, .reg .d => .rlcD
  | .rlc, .reg .e => .rlcE
  | .rlc, .reg .h => .rlcH
  | .rlc, .reg .l => .rlcL
  | .rlc, .indHl => .rlcIndHl
  | .rlc, .reg .a => .rlcA
  | .rrc, .reg .b => .rrcB
  | .rrc, .reg .c => .rrcC
  | .rrc, .reg .d => .rrcD
  | .rrc, .reg .e => .rrcE
  | .rrc, .reg .h => .rrcH
  | .rrc, .reg .l => .rrcL
  | .rrc, .indHl => .rrcIndHl
  | .rrc, .reg .a => .rrcA
  | .rl, .reg .b => .rlB
  | .rl, .reg .c => .rlC
  | .rl, .reg .d => .rlD
  | .rl, .reg .e => .rlE
  | .rl, .reg .h => .rlH
  | .rl, .reg .l => .rlL
  | .rl, .indHl => .rlIndHl
  | .rl, .reg .a => .rlA
  | .rr, .reg .b => .rrB
  | .rr, .reg .c => .rrC
  | .rr, .reg .d => .rrD
  | .rr, .reg .e => .rrE
  | .rr, .reg .h => .rrH
  | .rr, .reg .l => .rrL
  | .rr, .indHl => .rrIndHl
  | .rr, .reg .a => .rrA
  | .sla, .reg .b => .slaB
  | .sla, .reg .c => .slaC
  | .sla, .reg .d => .slaD
  | .sla, .reg .e => .slaE
  | .sla, .reg .h => .slaH
  | .sla, .reg .l => .slaL
  | .sla, .indHl => .slaIndHl
  | .sla, .reg .a => .slaA
  | .sra, .reg .b => .sraB
  | .sra, .reg .c => .sraC
  | .sra, .reg .d => .sraD
  | .sra, .reg .e => .sraE
  | .sra, .reg .h => .sraH
  | .sra, .reg .l => .sraL
  | .sra, .indHl => .sraIndHl
  | .sra, .reg .a => .sraA
  | .swap, .reg .b => .swapB
  | .swap, .reg .c => .swapC
  | .swap, .reg .d => .swapD
  | .swap, .reg .e => .swapE
  | .swap, .reg .h => .swapH
  | .swap, .reg .l => .swapL
  | .swap, .indHl => .swapIndHl
  | .swap, .reg .a => .swapA
  | .srl, .reg .b => .srlB
  | .srl, .reg .c => .srlC
  | .srl, .reg .d => .srlD
  | .srl, .reg .e => .srlE
  | .srl, .reg .h => .srlH
  | .srl, .reg .l => .srlL
  | .srl, .indHl => .srlIndHl
  | .srl, .reg .a => .srlA

/-- BIT b (R540, R541). -/
def Instr.bitO (b : Fin 8) : Opd → Instr
  | .reg .b => pick8 b .bit0B .bit1B .bit2B .bit3B .bit4B .bit5B .bit6B .bit7B
  | .reg .c => pick8 b .bit0C .bit1C .bit2C .bit3C .bit4C .bit5C .bit6C .bit7C
  | .reg .d => pick8 b .bit0D .bit1D .bit2D .bit3D .bit4D .bit5D .bit6D .bit7D
  | .reg .e => pick8 b .bit0E .bit1E .bit2E .bit3E .bit4E .bit5E .bit6E .bit7E
  | .reg .h => pick8 b .bit0H .bit1H .bit2H .bit3H .bit4H .bit5H .bit6H .bit7H
  | .reg .l => pick8 b .bit0L .bit1L .bit2L .bit3L .bit4L .bit5L .bit6L .bit7L
  | .indHl => pick8 b .bit0IndHl .bit1IndHl .bit2IndHl .bit3IndHl .bit4IndHl .bit5IndHl .bit6IndHl .bit7IndHl
  | .reg .a => pick8 b .bit0A .bit1A .bit2A .bit3A .bit4A .bit5A .bit6A .bit7A

/-- RES b (R542, R543). -/
def Instr.resO (b : Fin 8) : Opd → Instr
  | .reg .b => pick8 b .res0B .res1B .res2B .res3B .res4B .res5B .res6B .res7B
  | .reg .c => pick8 b .res0C .res1C .res2C .res3C .res4C .res5C .res6C .res7C
  | .reg .d => pick8 b .res0D .res1D .res2D .res3D .res4D .res5D .res6D .res7D
  | .reg .e => pick8 b .res0E .res1E .res2E .res3E .res4E .res5E .res6E .res7E
  | .reg .h => pick8 b .res0H .res1H .res2H .res3H .res4H .res5H .res6H .res7H
  | .reg .l => pick8 b .res0L .res1L .res2L .res3L .res4L .res5L .res6L .res7L
  | .indHl => pick8 b .res0IndHl .res1IndHl .res2IndHl .res3IndHl .res4IndHl .res5IndHl .res6IndHl .res7IndHl
  | .reg .a => pick8 b .res0A .res1A .res2A .res3A .res4A .res5A .res6A .res7A

/-- SET b (R544, R545). -/
def Instr.setO (b : Fin 8) : Opd → Instr
  | .reg .b => pick8 b .set0B .set1B .set2B .set3B .set4B .set5B .set6B .set7B
  | .reg .c => pick8 b .set0C .set1C .set2C .set3C .set4C .set5C .set6C .set7C
  | .reg .d => pick8 b .set0D .set1D .set2D .set3D .set4D .set5D .set6D .set7D
  | .reg .e => pick8 b .set0E .set1E .set2E .set3E .set4E .set5E .set6E .set7E
  | .reg .h => pick8 b .set0H .set1H .set2H .set3H .set4H .set5H .set6H .set7H
  | .reg .l => pick8 b .set0L .set1L .set2L .set3L .set4L .set5L .set6L .set7L
  | .indHl => pick8 b .set0IndHl .set1IndHl .set2IndHl .set3IndHl .set4IndHl .set5IndHl .set6IndHl .set7IndHl
  | .reg .a => pick8 b .set0A .set1A .set2A .set3A .set4A .set5A .set6A .set7A

/-- The eleven illegal opcodes (R308), each with its constructor. -/
def illegalOps : List (Byte × Instr) :=
  [(0xD3, .illegalD3), (0xDB, .illegalDB), (0xDD, .illegalDD), (0xE3, .illegalE3),
   (0xE4, .illegalE4), (0xEB, .illegalEB), (0xEC, .illegalEC), (0xED, .illegalED),
   (0xF4, .illegalF4), (0xFC, .illegalFC), (0xFD, .illegalFD)]

end Sys2Proof
end

