-- ==== Sys2Proof/Machine/Ops.lean ====
section
/-! DEFINITION. The operations instructions are made of: a CPU transaction (spec 20_memory.md R201), the stack (R219,
R220), the fetch (00_scope.md R13, 46_misc.md R596), and taking an interrupt and returning from one
(60_exceptions.md R613 to R617, 45_control.md R571). -/

namespace Sys2Proof.Machine

/-! ## CPU transactions -/

/-- 0xFF80-0xFFFE, "the only memory the CPU may access while a DMA transfer is active" (R210, R654). -/
def inHram (a : Addr) : Bool := decide (0xFF80 ≤ a.toNat) && decide (a.toNat ≤ 0xFFFE)

/-- The bus-conflict check (R654). -/
def State.dmaConflict (s : State) (a : Addr) : Bool := s.dma.active && !inHram a

/-- `MemRead(a, 1)` (R12, R201). -/
def memRead (a : Addr) (s : State) : Res Byte :=
  if s.dmaConflict a then raise (.dmaBusConflict a .read) s else busRead a s

/-- `MemWrite(a, 1, v)` (R12, R201). -/
def memWrite (a : Addr) (v : Byte) (s : State) : Res Unit :=
  if s.dmaConflict a then raise (.dmaBusConflict a .write) s else busWrite a v s

/-! ## The stack (R219, R220) -/

/-- SP goes down by one, then the byte is written there. -/
def pushByte (v : Byte) (s : State) : Res Unit :=
  memWrite (s.regs.sp - 1) v (s.setSp (s.regs.sp - 1))

/-- The byte at SP is read, then SP goes up by one. -/
def popByte (s : State) : Res Byte :=
  (memRead s.regs.sp s).bind fun v s => .ok v (s.setSp (s.regs.sp + 1))

/-- `Push16(v)`: the high byte first (R219). -/
def push16 (v : Addr) (s : State) : Res Unit :=
  (pushByte (hi8 v) s).bind fun _ s => pushByte (lo8 v) s

/-- `Pop16()`: the low byte first (R220). -/
def pop16 (s : State) : Res Addr :=
  (popByte s).bind fun lo s => (popByte s).bind fun hi s => .ok (join hi lo) s

/-! ## The fetch -/

/-- `Fetch8()` (R13). -/
def fetch8 (s : State) : Res Byte :=
  (memRead s.regs.pc s).bind fun v s => .ok v (s.setPc (s.regs.pc + 1))

/-- The opcode fetch: as `Fetch8()`, but after the HALT bug it clears `haltBug` and leaves pc alone (R596). It notes
the address it read, which an illegal opcode reports (R597). -/
def fetchOpcode (s : State) : Res Byte :=
  (memRead s.regs.pc s).bind fun v s =>
    let t := { s with opcodeAddr := s.regs.pc }
    if s.haltBug then .ok v { t with haltBug := false } else .ok v (t.setPc (s.regs.pc + 1))

/-! ## Interrupts -/

/-- `pending = IE & IF & 0x1F`, recomputed whenever it is read (R613). -/
def State.pending (s : State) : BitVec 5 := s.ie.extractLsb' 0 5 &&& s.iflag

/-- A dispatch is due at this boundary (R614). -/
def State.dispatchDue (s : State) : Bool := s.ime && s.pending != 0

/-- The lowest set bit: the source of highest priority (R615). -/
def lowestSource (p : BitVec 5) : Nat :=
  if p.getLsbD 0 then 0 else if p.getLsbD 1 then 1 else if p.getLsbD 2 then 2 else if p.getLsbD 3 then 3 else 4

/-- The vector of source i, `0x0040 + 8 * i` (R610). -/
def vectorOf (i : Nat) : Addr := BitVec.ofNat 16 (0x0040 + 8 * i)

/-- The address a dispatch pushes: pc, or `pc - 1` while the HALT bug is armed (R616, R617). -/
def State.returnAddress (s : State) : Addr := if s.haltBug then s.regs.pc - 1 else s.regs.pc

/-- The end of the sequence: pc goes to the vector of the pending set read between the two pushes, whose request is
cleared; or to 0x0000 when the request was withdrawn (R616). -/
def State.enterVector (s : State) (p : BitVec 5) : State :=
  if p = 0 then s.setPc 0x0000
  else ({ s with iflag := s.iflag &&& ~~~(1#5 <<< lowestSource p) }).setPc (vectorOf (lowestSource p))

/-- Taking an interrupt: the dispatch sequence (R616, R617), 5 machine cycles. -/
def takeInterrupt (s : State) : Res Unit :=
  let ret := s.returnAddress
  (pushByte (hi8 ret) { s with ime := false, eiPending := false, haltBug := false }).bind fun _ s =>
    let p := s.pending
    (pushByte (lo8 ret) s).bind fun _ s => .ok () ((s.enterVector p).addCycles 5)

/-- Returning from an interrupt: `pc <- Pop16(); IME <- 1` (R571, R619). -/
def returnFromInterrupt (s : State) : Res Unit :=
  (pop16 s).bind fun v s => .ok () { s.setPc v with ime := true }

end Sys2Proof.Machine
end

