-- ==== Sys2Proof/Machine/Fetch.lean ====
section
/-! DEFINITION. Fetching one instruction through the bus (spec 30_encoding.md R304, 46_misc.md R595, R596), and the
part of a CPU step that stands around an instruction (70_reset_and_hazards.md R720, R721). -/

namespace Sys2Proof.Machine

/-- The opcode byte, then as many bytes as its length says, in order, each a CPU transaction (R304). Every rule of an
instruction fetches its immediates before anything else it does, so all fetches stand here. -/
def fetchInstr (s : State) : Res Instr :=
  (fetchOpcode s).bind fun op s =>
    if opLength op = 1 then .ok (decodeOp op 0 0) s
    else (fetch8 s).bind fun b1 s =>
      if opLength op = 2 then .ok (decodeOp op b1 0) s
      else (fetch8 s).bind fun b2 s => .ok (decodeOp op b1 b2) s

end Sys2Proof.Machine
end

