-- ==== Sys2Proof/Machine/Boundary.lean ====
section
/-! DEFINITION. What a CPU step does around the instruction (spec 70_reset_and_hazards.md R720, R721;
60_exceptions.md R620, R622, R655): the wake test, the dispatch, and after the instruction the EI promotion and the
DMA ticks. -/

namespace Sys2Proof.Machine

/-- The step's writes started a transfer: the sequencer was inactive before it and is active after it. Nothing else
in an instruction or a dispatch activates it, and while it is active no CPU write reaches 0xFF46 (R654, R656). -/
def startedDma (before after : State) : Bool := !before.dma.active && after.dma.active

/-- The ticks a CPU step gives the sequencer: one per machine cycle of its cost, none if it started the transfer
(R655). -/
def ticksOwed (before after : State) : Nat :=
  if startedDma before after then 0 else after.cycles - before.cycles

/-- `if promote and eiPending: IME <- 1; eiPending <- 0` (R720, R721); `promote` is eiPending before the fetch. -/
def State.promote (s : State) (promote : Bool) : State :=
  if promote && s.eiPending then { s with ime := true, eiPending := false } else s

/-- The end of an instruction's step, from the state at the boundary and the state the instruction left: a fault ends
it at once (R600), else the promotion and the DMA ticks (R622). -/
def afterInstr (before after : State) : Outcome :=
  if after.mode = .faulted then .next after
  else (dmaTicks (ticksOwed before after) (after.promote before.eiPending)).outcome

/-- A step that dispatches an interrupt instead of fetching (R614, R720). A dispatch whose push starts a transfer is a
step whose write started it, so it gives no ticks (R655; log entry 8). -/
def dispatchStep (s : State) : Outcome :=
  ((takeInterrupt s).bind fun _ t => dmaTicks (ticksOwed s t) t).outcome

/-- A stopped step idles a machine cycle, with no DMA tick (R655, R720). -/
def stoppedStep (s : State) : Outcome := .next (s.addCycles 1)

/-- A halted step with nothing pending idles a machine cycle, with one DMA tick (R655, R720). -/
def haltedStep (s : State) : Outcome := (dmaTicks 1 (s.addCycles 1)).outcome

/-- The state a halted core wakes to (R620). -/
def State.awake (s : State) : State := { s with mode := .running }

end Sys2Proof.Machine
end

