-- ==== Sys2Proof/Machine/Flags.lean ====
section
/-! DEFINITION. The flags and every computation that writes them (spec 10_state.md R104 to R108, 42_alu8.md,
43_alu16.md, 44_rotate_shift_bit.md). Carries are read off exact natural numbers and then narrowed. -/

namespace Sys2Proof.Machine

/-! ## F (R104, R105) -/

/-- F.Z. -/
def Regs.z (g : Regs) : Bool := g.f.getLsbD 7
/-- F.N. -/
def Regs.n (g : Regs) : Bool := g.f.getLsbD 6
/-- F.H. -/
def Regs.hc (g : Regs) : Bool := g.f.getLsbD 5
/-- F.C. -/
def Regs.cy (g : Regs) : Bool := g.f.getLsbD 4

/-- The byte of four flags, its low nibble zero (R104). -/
def flagByte (z n h c : Bool) : Byte :=
  BitVec.ofBool z ++ BitVec.ofBool n ++ BitVec.ofBool h ++ BitVec.ofBool c ++ 0#4

/-- Write all four flags; a flag to keep is passed its old value (R105). -/
def State.setFlags (s : State) (z n h c : Bool) : State :=
  { s with regs := { s.regs with f := flagByte z n h c } }

/-- A condition (R580). -/
def Regs.cond (g : Regs) : Cond → Bool
  | .nz => !g.z
  | .z => g.z
  | .nc => !g.cy
  | .c => g.cy

/-! ## The 8-bit adder and subtractor (R451, R452) -/

/-- A result with its half-carry and carry. -/
structure AluResult where
  res : Byte
  h : Bool
  c : Bool
  deriving DecidableEq, Repr

/-- `add8(a, b, cin)` (R451). -/
def add8 (a b : Byte) (cin : Bool) : AluResult where
  res := BitVec.ofNat 8 (a.toNat + b.toNat + cin.toNat)
  h := decide (0xF < a.toNat % 16 + b.toNat % 16 + cin.toNat)
  c := decide (0xFF < a.toNat + b.toNat + cin.toNat)

/-- `sub8(a, b, cin)` (R452). -/
def sub8 (a b : Byte) (cin : Bool) : AluResult where
  res := BitVec.ofInt 8 ((a.toNat : Int) - b.toNat - cin.toNat)
  h := decide (a.toNat % 16 < b.toNat % 16 + cin.toNat)
  c := decide (a.toNat < b.toNat + cin.toNat)

/-! ## The operations on A (R460 to R483) -/

/-- A and the four flags from an adder's or subtractor's result. -/
def State.setArith (s : State) (r : AluResult) (n : Bool) : State :=
  (s.setR8 .a r.res).setFlags (r.res == 0) n r.h r.c

/-- A and the four flags from a logical result (R472 to R480). -/
def State.setLogic (s : State) (res : Byte) (h : Bool) : State :=
  (s.setR8 .a res).setFlags (res == 0) false h false

/-- The ALU operation of A with an operand; CP writes the flags alone (R460 to R483). -/
def State.alu (s : State) (op : AluOp) (v : Byte) : State :=
  let a := s.regs.a
  match op with
  | .add => s.setArith (add8 a v false) false
  | .adc => s.setArith (add8 a v s.regs.cy) false
  | .sub => s.setArith (sub8 a v false) true
  | .sbc => s.setArith (sub8 a v s.regs.cy) true
  | .and => s.setLogic (a &&& v) true
  | .xor => s.setLogic (a ^^^ v) false
  | .or => s.setLogic (a ||| v) false
  | .cp => let r := sub8 a v false; s.setFlags (r.res == 0) true r.h r.c

/-! ## INC and DEC (R484 to R487): C is kept. -/

/-- The flags of INC of the old value v. -/
def State.incFlags (s : State) (v : Byte) : State :=
  s.setFlags (v + 1 == 0) false (v.toNat % 16 == 15) s.regs.cy

/-- The flags of DEC of the old value v. -/
def State.decFlags (s : State) (v : Byte) : State :=
  s.setFlags (v - 1 == 0) true (v.toNat % 16 == 0) s.regs.cy

/-! ## DAA (R488) -/

/-- The adjustment and the carry after it, from A and the flags N, H and C (R488). -/
def daaAdjust (a : Byte) (n h c : Bool) : Byte × Bool :=
  if n then ((if c then 0x60#8 else 0) ||| (if h then 0x06#8 else 0), c)
  else
    let high := c || decide (0x99 < a.toNat)
    let low := h || decide (0x09 < a.toNat % 16)
    ((if high then 0x60#8 else 0) ||| (if low then 0x06#8 else 0), high)

/-- DAA (R488). -/
def State.daa (s : State) : State :=
  let g := s.regs
  let adj := daaAdjust g.a g.n g.hc g.cy
  let res := if g.n then g.a - adj.1 else g.a + adj.1
  (s.setR8 .a res).setFlags (res == 0) g.n false adj.2

/-! ## Rotates and shifts (R520 to R539) -/

/-- The result and the carry out of a rotate or shift of v, with carry in c (R524 to R538). SWAP clears C. -/
def shift8 (op : ShiftOp) (v : Byte) (c : Bool) : Byte × Bool :=
  match op with
  | .rlc => (v.extractLsb' 0 7 ++ BitVec.ofBool (v.getLsbD 7), v.getLsbD 7)
  | .rrc => (BitVec.ofBool (v.getLsbD 0) ++ v.extractLsb' 1 7, v.getLsbD 0)
  | .rl => (v.extractLsb' 0 7 ++ BitVec.ofBool c, v.getLsbD 7)
  | .rr => (BitVec.ofBool c ++ v.extractLsb' 1 7, v.getLsbD 0)
  | .sla => (v.extractLsb' 0 7 ++ 0#1, v.getLsbD 7)
  | .sra => (BitVec.ofBool (v.getLsbD 7) ++ v.extractLsb' 1 7, v.getLsbD 0)
  | .swap => (v.extractLsb' 0 4 ++ v.extractLsb' 4 4, false)
  | .srl => (0#1 ++ v.extractLsb' 1 7, v.getLsbD 0)

/-- The flags of a prefixed rotate or shift: Z computed, N = H = 0 (R524 to R539). -/
def State.shiftFlags (s : State) (r : Byte × Bool) : State :=
  s.setFlags (r.1 == 0) false false r.2

/-- The flags of BIT b on v: C is kept (R540). -/
def State.bitFlags (s : State) (b : Fin 8) (v : Byte) : State :=
  s.setFlags (!v.getLsbD b.val) false true s.regs.cy

/-! ## 16-bit flags (R435, R502, R503) -/

/-- H of the raw byte added to SP[7:0]: carry out of bit 3 (R435, R503). -/
def spAddH (sp : Addr) (b : Byte) : Bool := decide (0xF < sp.toNat % 16 + b.toNat % 16)

/-- C of the raw byte added to SP[7:0]: carry out of bit 7 (R435, R503). -/
def spAddC (sp : Addr) (b : Byte) : Bool := decide (0xFF < sp.toNat % 256 + b.toNat)

/-- The flags of `ADD SP,e8` and `LD HL,SP+e8`: Z = N = 0 (R435, R503). -/
def State.spAddFlags (s : State) (b : Byte) : State :=
  s.setFlags false false (spAddH s.regs.sp b) (spAddC s.regs.sp b)

/-- The flags of ADD HL,rr of a and b: Z is kept, H from bit 11, C from bit 15 (R502). -/
def State.addHlFlags (s : State) (a b : Addr) : State :=
  s.setFlags s.regs.z false (decide (0xFFF < a.toNat % 4096 + b.toNat % 4096)) (decide (0xFFFF < a.toNat + b.toNat))

end Sys2Proof.Machine
end

