-- ==== Sys2Proof/Machine/Operands.lean ====
section
/-! DEFINITION. The operand forms (spec 30_encoding.md R301 to R303, 42_alu8.md R450, 44_rotate_shift_bit.md R546):
where an operand's byte comes from, where a result's byte goes, and the address each memory form names. -/

namespace Sys2Proof.Machine

/-- The byte of an `r`-coded operand: a register, or `MemRead(x[HL], 1)` (R302, R546). -/
def readOpd (o : Opd) (s : State) : Res Byte :=
  match o with
  | .reg r => .ok (s.regs.r8 r) s
  | .indHl => memRead s.regs.hl s

/-- The result of an `r`-coded operand: a register, or `MemWrite(x[HL], 1, v)` (R302, R546). -/
def writeOpd (o : Opd) (v : Byte) (s : State) : Res Unit :=
  match o with
  | .reg r => .ok () (s.setR8 r v)
  | .indHl => memWrite s.regs.hl v s

/-- A cost that depends on the form: register or (HL) (R740). -/
def opdCost (o : Opd) (reg ind : Nat) : Nat :=
  match o with
  | .reg _ => reg
  | .indHl => ind

/-- The `LDH` address of an offset, `0xFF00 + n` (R303). -/
def highPage (n : Byte) : Addr := 0xFF#8 ++ n

/-- The target of a relative jump, from the address of the next instruction (R581). -/
def relTarget (pc : Addr) (e : Byte) : Addr := pc + sext16 e

end Sys2Proof.Machine
end

