-- ==== Sys2Proof/Machine/Alu16.lean ====
section
/-! DEFINITION. The 16-bit arithmetic (spec 43_alu16.md). -/

namespace Sys2Proof.Machine

/-! ## Shared forms -/

/-- `x[rr] <- x[rr] + delta`, 2 cycles, no flag written (R500, R501). -/
def movePair (p : Pair) (delta : Addr) (s : State) : Outcome :=
  .next ((s.setPair p (s.regs.pair p + delta)).addCycles 2)

/-- ADD HL, rr, 2 cycles (R502). -/
def addHlPair (p : Pair) (s : State) : Outcome :=
  let a := s.regs.hl
  let b := s.regs.pair p
  .next (((s.addHlFlags a b).setPair .hl (a + b)).addCycles 2)

/-! ## The instructions -/

/-- INC BC (R500). -/
def execIncBc (s : State) : Outcome := movePair .bc 1 s

/-- INC DE (R500). -/
def execIncDe (s : State) : Outcome := movePair .de 1 s

/-- INC HL (R500). -/
def execIncHl (s : State) : Outcome := movePair .hl 1 s

/-- INC SP (R500). -/
def execIncSp (s : State) : Outcome := movePair .sp 1 s

/-- DEC BC (R501). -/
def execDecBc (s : State) : Outcome := movePair .bc (-1) s

/-- DEC DE (R501). -/
def execDecDe (s : State) : Outcome := movePair .de (-1) s

/-- DEC HL (R501). -/
def execDecHl (s : State) : Outcome := movePair .hl (-1) s

/-- DEC SP (R501). -/
def execDecSp (s : State) : Outcome := movePair .sp (-1) s

/-- ADD HL,BC (R502). -/
def execAddHlBc (s : State) : Outcome := addHlPair .bc s

/-- ADD HL,DE (R502). -/
def execAddHlDe (s : State) : Outcome := addHlPair .de s

/-- ADD HL,HL (R502). -/
def execAddHlHl (s : State) : Outcome := addHlPair .hl s

/-- ADD HL,SP (R502). -/
def execAddHlSp (s : State) : Outcome := addHlPair .sp s

/-- ADD SP,e8 (R503). -/
def execAddSpE8 (e : Byte) (s : State) : Outcome :=
  .next (((s.spAddFlags e).setSp (s.regs.sp + sext16 e)).addCycles 4)

end Sys2Proof.Machine
end

