-- ==== Sys2Proof/Machine/Alu8.lean ====
section
/-! DEFINITION. The 8-bit arithmetic and logic (spec 42_alu8.md). -/

namespace Sys2Proof.Machine

/-! ## Shared forms -/

/-- The ALU on a register (1 cycle) or the byte at HL (2 cycles) (R450). -/
def aluOpd (op : AluOp) (o : Opd) (s : State) : Outcome :=
  ((readOpd o s).bind fun v s => .ok () (s.alu op v)).finish (opdCost o 1 2)

/-- The ALU on an immediate, 2 cycles (R450). -/
def aluImm (op : AluOp) (n : Byte) (s : State) : Outcome := .next ((s.alu op n).addCycles 2)

/-- INC of a register (1 cycle) or of the byte at HL, read then written (3 cycles) (R484, R485). -/
def incOpd (o : Opd) (s : State) : Outcome :=
  ((readOpd o s).bind fun v s => (writeOpd o (v + 1) s).bind fun _ s => .ok () (s.incFlags v)).finish (opdCost o 1 3)

/-- DEC of a register (1 cycle) or of the byte at HL, read then written (3 cycles) (R486, R487). -/
def decOpd (o : Opd) (s : State) : Outcome :=
  ((readOpd o s).bind fun v s => (writeOpd o (v - 1) s).bind fun _ s => .ok () (s.decFlags v)).finish (opdCost o 1 3)

/-! ## The instructions -/

/-- ADD A,B (R460). -/
def execAddAB (s : State) : Outcome := aluOpd .add (.reg .b) s

/-- ADD A,C (R460). -/
def execAddAC (s : State) : Outcome := aluOpd .add (.reg .c) s

/-- ADD A,D (R460). -/
def execAddAD (s : State) : Outcome := aluOpd .add (.reg .d) s

/-- ADD A,E (R460). -/
def execAddAE (s : State) : Outcome := aluOpd .add (.reg .e) s

/-- ADD A,H (R460). -/
def execAddAH (s : State) : Outcome := aluOpd .add (.reg .h) s

/-- ADD A,L (R460). -/
def execAddAL (s : State) : Outcome := aluOpd .add (.reg .l) s

/-- ADD A,(HL) (R461). -/
def execAddAIndHl (s : State) : Outcome := aluOpd .add .indHl s

/-- ADD A,A (R460). -/
def execAddAA (s : State) : Outcome := aluOpd .add (.reg .a) s

/-- ADD A,n8 (R462). -/
def execAddAN8 (n : Byte) (s : State) : Outcome := aluImm .add n s

/-- ADC A,B (R463). -/
def execAdcAB (s : State) : Outcome := aluOpd .adc (.reg .b) s

/-- ADC A,C (R463). -/
def execAdcAC (s : State) : Outcome := aluOpd .adc (.reg .c) s

/-- ADC A,D (R463). -/
def execAdcAD (s : State) : Outcome := aluOpd .adc (.reg .d) s

/-- ADC A,E (R463). -/
def execAdcAE (s : State) : Outcome := aluOpd .adc (.reg .e) s

/-- ADC A,H (R463). -/
def execAdcAH (s : State) : Outcome := aluOpd .adc (.reg .h) s

/-- ADC A,L (R463). -/
def execAdcAL (s : State) : Outcome := aluOpd .adc (.reg .l) s

/-- ADC A,(HL) (R464). -/
def execAdcAIndHl (s : State) : Outcome := aluOpd .adc .indHl s

/-- ADC A,A (R463). -/
def execAdcAA (s : State) : Outcome := aluOpd .adc (.reg .a) s

/-- ADC A,n8 (R465). -/
def execAdcAN8 (n : Byte) (s : State) : Outcome := aluImm .adc n s

/-- SUB B (R466). -/
def execSubB (s : State) : Outcome := aluOpd .sub (.reg .b) s

/-- SUB C (R466). -/
def execSubC (s : State) : Outcome := aluOpd .sub (.reg .c) s

/-- SUB D (R466). -/
def execSubD (s : State) : Outcome := aluOpd .sub (.reg .d) s

/-- SUB E (R466). -/
def execSubE (s : State) : Outcome := aluOpd .sub (.reg .e) s

/-- SUB H (R466). -/
def execSubH (s : State) : Outcome := aluOpd .sub (.reg .h) s

/-- SUB L (R466). -/
def execSubL (s : State) : Outcome := aluOpd .sub (.reg .l) s

/-- SUB (HL) (R467). -/
def execSubIndHl (s : State) : Outcome := aluOpd .sub .indHl s

/-- SUB A (R466). -/
def execSubA (s : State) : Outcome := aluOpd .sub (.reg .a) s

/-- SUB n8 (R468). -/
def execSubN8 (n : Byte) (s : State) : Outcome := aluImm .sub n s

/-- SBC A,B (R469). -/
def execSbcAB (s : State) : Outcome := aluOpd .sbc (.reg .b) s

/-- SBC A,C (R469). -/
def execSbcAC (s : State) : Outcome := aluOpd .sbc (.reg .c) s

/-- SBC A,D (R469). -/
def execSbcAD (s : State) : Outcome := aluOpd .sbc (.reg .d) s

/-- SBC A,E (R469). -/
def execSbcAE (s : State) : Outcome := aluOpd .sbc (.reg .e) s

/-- SBC A,H (R469). -/
def execSbcAH (s : State) : Outcome := aluOpd .sbc (.reg .h) s

/-- SBC A,L (R469). -/
def execSbcAL (s : State) : Outcome := aluOpd .sbc (.reg .l) s

/-- SBC A,(HL) (R470). -/
def execSbcAIndHl (s : State) : Outcome := aluOpd .sbc .indHl s

/-- SBC A,A (R469). -/
def execSbcAA (s : State) : Outcome := aluOpd .sbc (.reg .a) s

/-- SBC A,n8 (R471). -/
def execSbcAN8 (n : Byte) (s : State) : Outcome := aluImm .sbc n s

/-- AND B (R472). -/
def execAndB (s : State) : Outcome := aluOpd .and (.reg .b) s

/-- AND C (R472). -/
def execAndC (s : State) : Outcome := aluOpd .and (.reg .c) s

/-- AND D (R472). -/
def execAndD (s : State) : Outcome := aluOpd .and (.reg .d) s

/-- AND E (R472). -/
def execAndE (s : State) : Outcome := aluOpd .and (.reg .e) s

/-- AND H (R472). -/
def execAndH (s : State) : Outcome := aluOpd .and (.reg .h) s

/-- AND L (R472). -/
def execAndL (s : State) : Outcome := aluOpd .and (.reg .l) s

/-- AND (HL) (R473). -/
def execAndIndHl (s : State) : Outcome := aluOpd .and .indHl s

/-- AND A (R472). -/
def execAndA (s : State) : Outcome := aluOpd .and (.reg .a) s

/-- AND n8 (R474). -/
def execAndN8 (n : Byte) (s : State) : Outcome := aluImm .and n s

/-- XOR B (R475). -/
def execXorB (s : State) : Outcome := aluOpd .xor (.reg .b) s

/-- XOR C (R475). -/
def execXorC (s : State) : Outcome := aluOpd .xor (.reg .c) s

/-- XOR D (R475). -/
def execXorD (s : State) : Outcome := aluOpd .xor (.reg .d) s

/-- XOR E (R475). -/
def execXorE (s : State) : Outcome := aluOpd .xor (.reg .e) s

/-- XOR H (R475). -/
def execXorH (s : State) : Outcome := aluOpd .xor (.reg .h) s

/-- XOR L (R475). -/
def execXorL (s : State) : Outcome := aluOpd .xor (.reg .l) s

/-- XOR (HL) (R476). -/
def execXorIndHl (s : State) : Outcome := aluOpd .xor .indHl s

/-- XOR A (R475). -/
def execXorA (s : State) : Outcome := aluOpd .xor (.reg .a) s

/-- XOR n8 (R477). -/
def execXorN8 (n : Byte) (s : State) : Outcome := aluImm .xor n s

/-- OR B (R478). -/
def execOrB (s : State) : Outcome := aluOpd .or (.reg .b) s

/-- OR C (R478). -/
def execOrC (s : State) : Outcome := aluOpd .or (.reg .c) s

/-- OR D (R478). -/
def execOrD (s : State) : Outcome := aluOpd .or (.reg .d) s

/-- OR E (R478). -/
def execOrE (s : State) : Outcome := aluOpd .or (.reg .e) s

/-- OR H (R478). -/
def execOrH (s : State) : Outcome := aluOpd .or (.reg .h) s

/-- OR L (R478). -/
def execOrL (s : State) : Outcome := aluOpd .or (.reg .l) s

/-- OR (HL) (R479). -/
def execOrIndHl (s : State) : Outcome := aluOpd .or .indHl s

/-- OR A (R478). -/
def execOrA (s : State) : Outcome := aluOpd .or (.reg .a) s

/-- OR n8 (R480). -/
def execOrN8 (n : Byte) (s : State) : Outcome := aluImm .or n s

/-- CP B (R481). -/
def execCpB (s : State) : Outcome := aluOpd .cp (.reg .b) s

/-- CP C (R481). -/
def execCpC (s : State) : Outcome := aluOpd .cp (.reg .c) s

/-- CP D (R481). -/
def execCpD (s : State) : Outcome := aluOpd .cp (.reg .d) s

/-- CP E (R481). -/
def execCpE (s : State) : Outcome := aluOpd .cp (.reg .e) s

/-- CP H (R481). -/
def execCpH (s : State) : Outcome := aluOpd .cp (.reg .h) s

/-- CP L (R481). -/
def execCpL (s : State) : Outcome := aluOpd .cp (.reg .l) s

/-- CP (HL) (R482). -/
def execCpIndHl (s : State) : Outcome := aluOpd .cp .indHl s

/-- CP A (R481). -/
def execCpA (s : State) : Outcome := aluOpd .cp (.reg .a) s

/-- CP n8 (R483). -/
def execCpN8 (n : Byte) (s : State) : Outcome := aluImm .cp n s

/-- INC B (R484). -/
def execIncB (s : State) : Outcome := incOpd (.reg .b) s

/-- INC C (R484). -/
def execIncC (s : State) : Outcome := incOpd (.reg .c) s

/-- INC D (R484). -/
def execIncD (s : State) : Outcome := incOpd (.reg .d) s

/-- INC E (R484). -/
def execIncE (s : State) : Outcome := incOpd (.reg .e) s

/-- INC H (R484). -/
def execIncH (s : State) : Outcome := incOpd (.reg .h) s

/-- INC L (R484). -/
def execIncL (s : State) : Outcome := incOpd (.reg .l) s

/-- INC (HL) (R485). -/
def execIncIndHl (s : State) : Outcome := incOpd .indHl s

/-- INC A (R484). -/
def execIncA (s : State) : Outcome := incOpd (.reg .a) s

/-- DEC B (R486). -/
def execDecB (s : State) : Outcome := decOpd (.reg .b) s

/-- DEC C (R486). -/
def execDecC (s : State) : Outcome := decOpd (.reg .c) s

/-- DEC D (R486). -/
def execDecD (s : State) : Outcome := decOpd (.reg .d) s

/-- DEC E (R486). -/
def execDecE (s : State) : Outcome := decOpd (.reg .e) s

/-- DEC H (R486). -/
def execDecH (s : State) : Outcome := decOpd (.reg .h) s

/-- DEC L (R486). -/
def execDecL (s : State) : Outcome := decOpd (.reg .l) s

/-- DEC (HL) (R487). -/
def execDecIndHl (s : State) : Outcome := decOpd .indHl s

/-- DEC A (R486). -/
def execDecA (s : State) : Outcome := decOpd (.reg .a) s

/-- DAA (R488). -/
def execDaa (s : State) : Outcome := .next (s.daa.addCycles 1)

/-- CPL (R489). -/
def execCpl (s : State) : Outcome :=
  .next (((s.setR8 .a (~~~s.regs.a)).setFlags s.regs.z true true s.regs.cy).addCycles 1)

/-- SCF (R490). -/
def execScf (s : State) : Outcome := .next ((s.setFlags s.regs.z false false true).addCycles 1)

/-- CCF (R491). -/
def execCcf (s : State) : Outcome := .next ((s.setFlags s.regs.z false false (!s.regs.cy)).addCycles 1)

end Sys2Proof.Machine
end

