-- ==== Sys2Proof/Machine/Control.lean ====
section
/-! DEFINITION. Control transfer (spec 45_control.md). A conditional form costs more when taken. -/

namespace Sys2Proof.Machine

/-! ## Shared forms -/

/-- `pc <- t`, k cycles (R560 to R564). -/
def jumpTo (t : Addr) (k : Nat) (s : State) : Outcome := .next ((s.setPc t).addCycles k)

/-- Not taken: only the cycles (R562, R564, R566, R568). -/
def notTaken (k : Nat) (s : State) : Outcome := .next (s.addCycles k)

/-- `Push16(pc); pc <- t`, k cycles (R565, R566, R569). -/
def callTo (t : Addr) (k : Nat) (s : State) : Outcome :=
  ((push16 s.regs.pc s).bind fun _ s => .ok () (s.setPc t)).finish k

/-- `pc <- Pop16()`, k cycles (R567, R568). -/
def returnFrom (k : Nat) (s : State) : Outcome :=
  ((pop16 s).bind fun v s => .ok () (s.setPc v)).finish k

/-- JP cc: 4 cycles taken, 3 not (R562). -/
def jpIf (cc : Cond) (n : Addr) (s : State) : Outcome :=
  if s.regs.cond cc then jumpTo n 4 s else notTaken 3 s

/-- JR cc: 3 cycles taken, 2 not (R564). -/
def jrIf (cc : Cond) (e : Byte) (s : State) : Outcome :=
  if s.regs.cond cc then jumpTo (relTarget s.regs.pc e) 3 s else notTaken 2 s

/-- CALL cc: 6 cycles taken, 3 not (R566). -/
def callIf (cc : Cond) (n : Addr) (s : State) : Outcome :=
  if s.regs.cond cc then callTo n 6 s else notTaken 3 s

/-- RET cc: 5 cycles taken, 2 not (R568). -/
def retIf (cc : Cond) (s : State) : Outcome :=
  if s.regs.cond cc then returnFrom 5 s else notTaken 2 s

/-- RST: a call of `y * 8`, 4 cycles (R569). -/
def restart (y : Nat) (s : State) : Outcome := callTo (BitVec.ofNat 16 (y * 8)) 4 s

/-! ## The instructions -/

/-- JP n16 (R560). -/
def execJpN16 (n : Addr) (s : State) : Outcome := jumpTo n 4 s

/-- JP HL (R561). -/
def execJpHl (s : State) : Outcome := jumpTo s.regs.hl 1 s

/-- JP NZ,n16 (R562). -/
def execJpNzN16 (n : Addr) (s : State) : Outcome := jpIf .nz n s

/-- JP Z,n16 (R562). -/
def execJpZN16 (n : Addr) (s : State) : Outcome := jpIf .z n s

/-- JP NC,n16 (R562). -/
def execJpNcN16 (n : Addr) (s : State) : Outcome := jpIf .nc n s

/-- JP C,n16 (R562). -/
def execJpCN16 (n : Addr) (s : State) : Outcome := jpIf .c n s

/-- JR e8 (R563). -/
def execJrE8 (e : Byte) (s : State) : Outcome := jumpTo (relTarget s.regs.pc e) 3 s

/-- JR NZ,e8 (R564). -/
def execJrNzE8 (e : Byte) (s : State) : Outcome := jrIf .nz e s

/-- JR Z,e8 (R564). -/
def execJrZE8 (e : Byte) (s : State) : Outcome := jrIf .z e s

/-- JR NC,e8 (R564). -/
def execJrNcE8 (e : Byte) (s : State) : Outcome := jrIf .nc e s

/-- JR C,e8 (R564). -/
def execJrCE8 (e : Byte) (s : State) : Outcome := jrIf .c e s

/-- CALL n16 (R565). -/
def execCallN16 (n : Addr) (s : State) : Outcome := callTo n 6 s

/-- CALL NZ,n16 (R566). -/
def execCallNzN16 (n : Addr) (s : State) : Outcome := callIf .nz n s

/-- CALL Z,n16 (R566). -/
def execCallZN16 (n : Addr) (s : State) : Outcome := callIf .z n s

/-- CALL NC,n16 (R566). -/
def execCallNcN16 (n : Addr) (s : State) : Outcome := callIf .nc n s

/-- CALL C,n16 (R566). -/
def execCallCN16 (n : Addr) (s : State) : Outcome := callIf .c n s

/-- RET (R567). -/
def execRet (s : State) : Outcome := returnFrom 4 s

/-- RET NZ (R568). -/
def execRetNz (s : State) : Outcome := retIf .nz s

/-- RET Z (R568). -/
def execRetZ (s : State) : Outcome := retIf .z s

/-- RET NC (R568). -/
def execRetNc (s : State) : Outcome := retIf .nc s

/-- RET C (R568). -/
def execRetC (s : State) : Outcome := retIf .c s

/-- RST $00 (R569). -/
def execRst00 (s : State) : Outcome := restart 0 s

/-- RST $08 (R569). -/
def execRst08 (s : State) : Outcome := restart 1 s

/-- RST $10 (R569). -/
def execRst10 (s : State) : Outcome := restart 2 s

/-- RST $18 (R569). -/
def execRst18 (s : State) : Outcome := restart 3 s

/-- RST $20 (R569). -/
def execRst20 (s : State) : Outcome := restart 4 s

/-- RST $28 (R569). -/
def execRst28 (s : State) : Outcome := restart 5 s

/-- RST $30 (R569). -/
def execRst30 (s : State) : Outcome := restart 6 s

/-- RST $38 (R569). -/
def execRst38 (s : State) : Outcome := restart 7 s

/-- RETI (R571). -/
def execReti (s : State) : Outcome := (returnFromInterrupt s).finish 4

end Sys2Proof.Machine
end

