-- ==== Sys2Proof/Machine/Load16.lean ====
section
/-! DEFINITION. The 16-bit loads, push and pop (spec 41_load16.md). -/

namespace Sys2Proof.Machine

/-! ## Shared forms -/

/-- `x[rr] <- n16`, 3 cycles (R430). -/
def ldPairImm (p : Pair) (n : Addr) (s : State) : Outcome := .next ((s.setPair p n).addCycles 3)

/-- `Push16(x[rr])`, 4 cycles (R433, R434). -/
def pushValue (v : Addr) (s : State) : Outcome := (push16 v s).finish 4

/-- `x[rr] <- Pop16()`, 3 cycles (R436). -/
def popPair (p : StackPair) (s : State) : Outcome :=
  ((pop16 s).bind fun v s => .ok () { s with regs := s.regs.setStackPair p v }).finish 3

/-! ## The instructions -/

/-- LD BC,n16 (R430). -/
def execLdBcN16 (n : Addr) (s : State) : Outcome := ldPairImm .bc n s

/-- LD DE,n16 (R430). -/
def execLdDeN16 (n : Addr) (s : State) : Outcome := ldPairImm .de n s

/-- LD HL,n16 (R430). -/
def execLdHlN16 (n : Addr) (s : State) : Outcome := ldPairImm .hl n s

/-- LD SP,n16 (R430). -/
def execLdSpN16 (n : Addr) (s : State) : Outcome := ldPairImm .sp n s

/-- LD (n16),SP (R431). -/
def execLdIndN16Sp (n : Addr) (s : State) : Outcome :=
  ((memWrite n (lo8 s.regs.sp) s).bind fun _ s => memWrite (n + 1) (hi8 s.regs.sp) s).finish 5

/-- LD SP,HL (R432). -/
def execLdSpHl (s : State) : Outcome := .next ((s.setSp s.regs.hl).addCycles 2)

/-- PUSH BC (R433). -/
def execPushBc (s : State) : Outcome := pushValue s.regs.bc s

/-- PUSH DE (R433). -/
def execPushDe (s : State) : Outcome := pushValue s.regs.de s

/-- PUSH HL (R433). -/
def execPushHl (s : State) : Outcome := pushValue s.regs.hl s

/-- PUSH AF (R434). -/
def execPushAf (s : State) : Outcome := pushValue s.regs.af s

/-- LD HL,SP+e8 (R435). -/
def execLdHlSpE8 (e : Byte) (s : State) : Outcome :=
  .next (((s.spAddFlags e).setPair .hl (s.regs.sp + sext16 e)).addCycles 3)

/-- POP BC (R436). -/
def execPopBc (s : State) : Outcome := popPair .bc s

/-- POP DE (R436). -/
def execPopDe (s : State) : Outcome := popPair .de s

/-- POP HL (R436). -/
def execPopHl (s : State) : Outcome := popPair .hl s

/-- POP AF (R437). -/
def execPopAf (s : State) : Outcome :=
  ((pop16 s).bind fun v s => .ok () ((s.setR8 .a (hi8 v)).setF (lo8 v))).finish 3

end Sys2Proof.Machine
end

