-- ==== Sys2Proof/Machine/Load8.lean ====
section
/-! DEFINITION. The 8-bit loads (spec 40_load8.md). No 8-bit load writes a flag. -/

namespace Sys2Proof.Machine

/-! ## Shared forms -/

/-- `x[r] <- x[r']`, 1 cycle (R400). -/
def ldReg (dst src : R8) (s : State) : Outcome := .next ((s.setR8 dst (s.regs.r8 src)).addCycles 1)

/-- `x[r] <- n8`, 2 cycles (R401). -/
def ldImm (dst : R8) (n : Byte) (s : State) : Outcome := .next ((s.setR8 dst n).addCycles 2)

/-- `x[r] <- MemRead(a, 1)`, k cycles (R402, R405, R406, R409, R411, R413). -/
def loadFrom (dst : R8) (a : Addr) (k : Nat) (s : State) : Outcome :=
  ((memRead a s).bind fun v s => .ok () (s.setR8 dst v)).finish k

/-- `MemWrite(a, 1, v)`, k cycles (R403, R404, R407, R408, R410, R412, R414). -/
def storeTo (a : Addr) (v : Byte) (k : Nat) (s : State) : Outcome := (memWrite a v s).finish k

/-- `x[A] <- MemRead(x[HL], 1)`, then HL moves by `step` (R415, R417). -/
def loadMoveHl (step : Addr) (s : State) : Outcome :=
  ((memRead s.regs.hl s).bind fun v s =>
    let t := s.setR8 .a v
    .ok () (t.setPair .hl (t.regs.hl + step))).finish 2

/-- `MemWrite(x[HL], 1, x[A])`, then HL moves by `step` (R416, R418). -/
def storeMoveHl (step : Addr) (s : State) : Outcome :=
  ((memWrite s.regs.hl s.regs.a s).bind fun _ s => .ok () (s.setPair .hl (s.regs.hl + step))).finish 2

/-! ## The instructions -/

/-- LD B,B (R400). -/
def execLdBB (s : State) : Outcome := ldReg .b .b s

/-- LD B,C (R400). -/
def execLdBC (s : State) : Outcome := ldReg .b .c s

/-- LD B,D (R400). -/
def execLdBD (s : State) : Outcome := ldReg .b .d s

/-- LD B,E (R400). -/
def execLdBE (s : State) : Outcome := ldReg .b .e s

/-- LD B,H (R400). -/
def execLdBH (s : State) : Outcome := ldReg .b .h s

/-- LD B,L (R400). -/
def execLdBL (s : State) : Outcome := ldReg .b .l s

/-- LD B,A (R400). -/
def execLdBA (s : State) : Outcome := ldReg .b .a s

/-- LD C,B (R400). -/
def execLdCB (s : State) : Outcome := ldReg .c .b s

/-- LD C,C (R400). -/
def execLdCC (s : State) : Outcome := ldReg .c .c s

/-- LD C,D (R400). -/
def execLdCD (s : State) : Outcome := ldReg .c .d s

/-- LD C,E (R400). -/
def execLdCE (s : State) : Outcome := ldReg .c .e s

/-- LD C,H (R400). -/
def execLdCH (s : State) : Outcome := ldReg .c .h s

/-- LD C,L (R400). -/
def execLdCL (s : State) : Outcome := ldReg .c .l s

/-- LD C,A (R400). -/
def execLdCA (s : State) : Outcome := ldReg .c .a s

/-- LD D,B (R400). -/
def execLdDB (s : State) : Outcome := ldReg .d .b s

/-- LD D,C (R400). -/
def execLdDC (s : State) : Outcome := ldReg .d .c s

/-- LD D,D (R400). -/
def execLdDD (s : State) : Outcome := ldReg .d .d s

/-- LD D,E (R400). -/
def execLdDE (s : State) : Outcome := ldReg .d .e s

/-- LD D,H (R400). -/
def execLdDH (s : State) : Outcome := ldReg .d .h s

/-- LD D,L (R400). -/
def execLdDL (s : State) : Outcome := ldReg .d .l s

/-- LD D,A (R400). -/
def execLdDA (s : State) : Outcome := ldReg .d .a s

/-- LD E,B (R400). -/
def execLdEB (s : State) : Outcome := ldReg .e .b s

/-- LD E,C (R400). -/
def execLdEC (s : State) : Outcome := ldReg .e .c s

/-- LD E,D (R400). -/
def execLdED (s : State) : Outcome := ldReg .e .d s

/-- LD E,E (R400). -/
def execLdEE (s : State) : Outcome := ldReg .e .e s

/-- LD E,H (R400). -/
def execLdEH (s : State) : Outcome := ldReg .e .h s

/-- LD E,L (R400). -/
def execLdEL (s : State) : Outcome := ldReg .e .l s

/-- LD E,A (R400). -/
def execLdEA (s : State) : Outcome := ldReg .e .a s

/-- LD H,B (R400). -/
def execLdHB (s : State) : Outcome := ldReg .h .b s

/-- LD H,C (R400). -/
def execLdHC (s : State) : Outcome := ldReg .h .c s

/-- LD H,D (R400). -/
def execLdHD (s : State) : Outcome := ldReg .h .d s

/-- LD H,E (R400). -/
def execLdHE (s : State) : Outcome := ldReg .h .e s

/-- LD H,H (R400). -/
def execLdHH (s : State) : Outcome := ldReg .h .h s

/-- LD H,L (R400). -/
def execLdHL (s : State) : Outcome := ldReg .h .l s

/-- LD H,A (R400). -/
def execLdHA (s : State) : Outcome := ldReg .h .a s

/-- LD L,B (R400). -/
def execLdLB (s : State) : Outcome := ldReg .l .b s

/-- LD L,C (R400). -/
def execLdLC (s : State) : Outcome := ldReg .l .c s

/-- LD L,D (R400). -/
def execLdLD (s : State) : Outcome := ldReg .l .d s

/-- LD L,E (R400). -/
def execLdLE (s : State) : Outcome := ldReg .l .e s

/-- LD L,H (R400). -/
def execLdLH (s : State) : Outcome := ldReg .l .h s

/-- LD L,L (R400). -/
def execLdLL (s : State) : Outcome := ldReg .l .l s

/-- LD L,A (R400). -/
def execLdLA (s : State) : Outcome := ldReg .l .a s

/-- LD A,B (R400). -/
def execLdAB (s : State) : Outcome := ldReg .a .b s

/-- LD A,C (R400). -/
def execLdAC (s : State) : Outcome := ldReg .a .c s

/-- LD A,D (R400). -/
def execLdAD (s : State) : Outcome := ldReg .a .d s

/-- LD A,E (R400). -/
def execLdAE (s : State) : Outcome := ldReg .a .e s

/-- LD A,H (R400). -/
def execLdAH (s : State) : Outcome := ldReg .a .h s

/-- LD A,L (R400). -/
def execLdAL (s : State) : Outcome := ldReg .a .l s

/-- LD A,A (R400). -/
def execLdAA (s : State) : Outcome := ldReg .a .a s

/-- LD B,n8 (R401). -/
def execLdBN8 (n : Byte) (s : State) : Outcome := ldImm .b n s

/-- LD C,n8 (R401). -/
def execLdCN8 (n : Byte) (s : State) : Outcome := ldImm .c n s

/-- LD D,n8 (R401). -/
def execLdDN8 (n : Byte) (s : State) : Outcome := ldImm .d n s

/-- LD E,n8 (R401). -/
def execLdEN8 (n : Byte) (s : State) : Outcome := ldImm .e n s

/-- LD H,n8 (R401). -/
def execLdHN8 (n : Byte) (s : State) : Outcome := ldImm .h n s

/-- LD L,n8 (R401). -/
def execLdLN8 (n : Byte) (s : State) : Outcome := ldImm .l n s

/-- LD A,n8 (R401). -/
def execLdAN8 (n : Byte) (s : State) : Outcome := ldImm .a n s

/-- LD B,(HL) (R402). -/
def execLdBIndHl (s : State) : Outcome := loadFrom .b s.regs.hl 2 s

/-- LD C,(HL) (R402). -/
def execLdCIndHl (s : State) : Outcome := loadFrom .c s.regs.hl 2 s

/-- LD D,(HL) (R402). -/
def execLdDIndHl (s : State) : Outcome := loadFrom .d s.regs.hl 2 s

/-- LD E,(HL) (R402). -/
def execLdEIndHl (s : State) : Outcome := loadFrom .e s.regs.hl 2 s

/-- LD H,(HL) (R402). -/
def execLdHIndHl (s : State) : Outcome := loadFrom .h s.regs.hl 2 s

/-- LD L,(HL) (R402). -/
def execLdLIndHl (s : State) : Outcome := loadFrom .l s.regs.hl 2 s

/-- LD A,(HL) (R402). -/
def execLdAIndHl (s : State) : Outcome := loadFrom .a s.regs.hl 2 s

/-- LD (HL),B (R403). -/
def execLdIndHlB (s : State) : Outcome := storeTo s.regs.hl s.regs.b 2 s

/-- LD (HL),C (R403). -/
def execLdIndHlC (s : State) : Outcome := storeTo s.regs.hl s.regs.c 2 s

/-- LD (HL),D (R403). -/
def execLdIndHlD (s : State) : Outcome := storeTo s.regs.hl s.regs.d 2 s

/-- LD (HL),E (R403). -/
def execLdIndHlE (s : State) : Outcome := storeTo s.regs.hl s.regs.e 2 s

/-- LD (HL),H (R403). -/
def execLdIndHlH (s : State) : Outcome := storeTo s.regs.hl s.regs.h 2 s

/-- LD (HL),L (R403). -/
def execLdIndHlL (s : State) : Outcome := storeTo s.regs.hl s.regs.l 2 s

/-- LD (HL),A (R403). -/
def execLdIndHlA (s : State) : Outcome := storeTo s.regs.hl s.regs.a 2 s

/-- LD (HL),n8 (R404). -/
def execLdIndHlN8 (n : Byte) (s : State) : Outcome := storeTo s.regs.hl n 3 s

/-- LD A,(BC) (R405). -/
def execLdAIndBc (s : State) : Outcome := loadFrom .a s.regs.bc 2 s

/-- LD A,(DE) (R406). -/
def execLdAIndDe (s : State) : Outcome := loadFrom .a s.regs.de 2 s

/-- LD (BC),A (R407). -/
def execLdIndBcA (s : State) : Outcome := storeTo s.regs.bc s.regs.a 2 s

/-- LD (DE),A (R408). -/
def execLdIndDeA (s : State) : Outcome := storeTo s.regs.de s.regs.a 2 s

/-- LD A,(n16) (R409). -/
def execLdAIndN16 (n : Addr) (s : State) : Outcome := loadFrom .a n 4 s

/-- LD (n16),A (R410). -/
def execLdIndN16A (n : Addr) (s : State) : Outcome := storeTo n s.regs.a 4 s

/-- LDH A,(C) (R411). -/
def execLdhAIndC (s : State) : Outcome := loadFrom .a (highPage s.regs.c) 2 s

/-- LDH (C),A (R412). -/
def execLdhIndCA (s : State) : Outcome := storeTo (highPage s.regs.c) s.regs.a 2 s

/-- LDH A,(n8) (R413). -/
def execLdhAIndN8 (n : Byte) (s : State) : Outcome := loadFrom .a (highPage n) 3 s

/-- LDH (n8),A (R414). -/
def execLdhIndN8A (n : Byte) (s : State) : Outcome := storeTo (highPage n) s.regs.a 3 s

/-- LD A,(HL-) (R415). -/
def execLdAIndHlDec (s : State) : Outcome := loadMoveHl (-1) s

/-- LD (HL-),A (R416). -/
def execLdIndHlDecA (s : State) : Outcome := storeMoveHl (-1) s

/-- LD A,(HL+) (R417). -/
def execLdAIndHlInc (s : State) : Outcome := loadMoveHl 1 s

/-- LD (HL+),A (R418). -/
def execLdIndHlIncA (s : State) : Outcome := storeMoveHl 1 s

end Sys2Proof.Machine
end

