-- ==== Sys2Proof/Machine/Misc.lean ====
section
/-! DEFINITION. NOP, HALT, STOP, DI, EI and the illegal opcodes (spec 46_misc.md). -/

namespace Sys2Proof.Machine

/-! ## Shared forms -/

/-- HALT: halt, or arm the HALT bug when IME = 0 and an interrupt is already pending (R591). -/
def State.haltOrBug (s : State) : State :=
  if s.ime || s.pending == 0 then { s with mode := .halted } else { s with haltBug := true }

/-- An illegal opcode raises `Fault(IllegalOpcode, {opcode, address})`; "No other state changes" (R597). -/
def illegal (opcode : Byte) (s : State) : Outcome := .next (s.raised (.illegalOpcode opcode s.opcodeAddr))

/-! ## The instructions -/

/-- NOP (R590). -/
def execNop (s : State) : Outcome := .next (s.addCycles 1)

/-- HALT (R591). -/
def execHalt (s : State) : Outcome := .next (s.haltOrBug.addCycles 1)

/-- STOP (R592): its second byte is fetched and ignored; in CGB mode it faults. -/
def execStop (_b : Byte) (s : State) : Outcome :=
  if s.params.cgbMode then .next (s.raised (.unmodelledStop 0x10 (s.regs.pc - 2)))
  else .next (({ s with mode := .stopped }).addCycles 1)

/-- DI (R593). -/
def execDi (s : State) : Outcome := .next (({ s with ime := false, eiPending := false }).addCycles 1)

/-- EI (R594). -/
def execEi (s : State) : Outcome := .next (({ s with eiPending := true }).addCycles 1)

/-- The illegal opcode 0xD3 (R597). -/
def execIllegalD3 (s : State) : Outcome := illegal 0xD3 s

/-- The illegal opcode 0xDB (R597). -/
def execIllegalDB (s : State) : Outcome := illegal 0xDB s

/-- The illegal opcode 0xDD (R597). -/
def execIllegalDD (s : State) : Outcome := illegal 0xDD s

/-- The illegal opcode 0xE3 (R597). -/
def execIllegalE3 (s : State) : Outcome := illegal 0xE3 s

/-- The illegal opcode 0xE4 (R597). -/
def execIllegalE4 (s : State) : Outcome := illegal 0xE4 s

/-- The illegal opcode 0xEB (R597). -/
def execIllegalEB (s : State) : Outcome := illegal 0xEB s

/-- The illegal opcode 0xEC (R597). -/
def execIllegalEC (s : State) : Outcome := illegal 0xEC s

/-- The illegal opcode 0xED (R597). -/
def execIllegalED (s : State) : Outcome := illegal 0xED s

/-- The illegal opcode 0xF4 (R597). -/
def execIllegalF4 (s : State) : Outcome := illegal 0xF4 s

/-- The illegal opcode 0xFC (R597). -/
def execIllegalFC (s : State) : Outcome := illegal 0xFC s

/-- The illegal opcode 0xFD (R597). -/
def execIllegalFD (s : State) : Outcome := illegal 0xFD s

end Sys2Proof.Machine
end

