-- ==== Sys2Proof/Machine/RotateShiftBit.lean ====
section
/-! DEFINITION. The rotates, shifts and bit operations (spec 44_rotate_shift_bit.md), and the prefix, which runs the
CB-table entry of its second byte (46_misc.md R595). -/

namespace Sys2Proof.Machine

/-! ## Shared forms -/

/-- The four rotates of A: Z = 0 always, 1 cycle (R520 to R523). -/
def rotateA (op : ShiftOp) (s : State) : Outcome :=
  let r := shift8 op s.regs.a s.regs.cy
  .next (((s.setR8 .a r.1).setFlags false false false r.2).addCycles 1)

/-- A prefixed rotate, shift or SWAP: 2 cycles on a register, 4 on (HL) (R524 to R539, R546). -/
def shiftOpd (op : ShiftOp) (o : Opd) (s : State) : Outcome :=
  ((readOpd o s).bind fun v s =>
    let r := shift8 op v s.regs.cy
    (writeOpd o r.1 s).bind fun _ s => .ok () (s.shiftFlags r)).finish (opdCost o 2 4)

/-- BIT b: no write back; 2 cycles on a register, 3 on (HL) (R540, R541). -/
def bitOpd (b : Fin 8) (o : Opd) (s : State) : Outcome :=
  ((readOpd o s).bind fun v s => .ok () (s.bitFlags b v)).finish (opdCost o 2 3)

/-- RES b: 2 cycles on a register, 4 on (HL) (R542, R543). -/
def resOpd (b : Fin 8) (o : Opd) (s : State) : Outcome :=
  ((readOpd o s).bind fun v s => writeOpd o (v &&& ~~~(1#8 <<< b.val)) s).finish (opdCost o 2 4)

/-- SET b: 2 cycles on a register, 4 on (HL) (R544, R545). -/
def setOpd (b : Fin 8) (o : Opd) (s : State) : Outcome :=
  ((readOpd o s).bind fun v s => writeOpd o (v ||| 1#8 <<< b.val) s).finish (opdCost o 2 4)

/-! ## The instructions -/

/-- RLCA (R520). -/
def execRlca (s : State) : Outcome := rotateA .rlc s

/-- RRCA (R521). -/
def execRrca (s : State) : Outcome := rotateA .rrc s

/-- RLA (R522). -/
def execRla (s : State) : Outcome := rotateA .rl s

/-- RRA (R523). -/
def execRra (s : State) : Outcome := rotateA .rr s

/-- RLC B (R524). -/
def execRlcB (s : State) : Outcome := shiftOpd .rlc (.reg .b) s

/-- RLC C (R524). -/
def execRlcC (s : State) : Outcome := shiftOpd .rlc (.reg .c) s

/-- RLC D (R524). -/
def execRlcD (s : State) : Outcome := shiftOpd .rlc (.reg .d) s

/-- RLC E (R524). -/
def execRlcE (s : State) : Outcome := shiftOpd .rlc (.reg .e) s

/-- RLC H (R524). -/
def execRlcH (s : State) : Outcome := shiftOpd .rlc (.reg .h) s

/-- RLC L (R524). -/
def execRlcL (s : State) : Outcome := shiftOpd .rlc (.reg .l) s

/-- RLC (HL) (R525). -/
def execRlcIndHl (s : State) : Outcome := shiftOpd .rlc .indHl s

/-- RLC A (R524). -/
def execRlcA (s : State) : Outcome := shiftOpd .rlc (.reg .a) s

/-- RRC B (R526). -/
def execRrcB (s : State) : Outcome := shiftOpd .rrc (.reg .b) s

/-- RRC C (R526). -/
def execRrcC (s : State) : Outcome := shiftOpd .rrc (.reg .c) s

/-- RRC D (R526). -/
def execRrcD (s : State) : Outcome := shiftOpd .rrc (.reg .d) s

/-- RRC E (R526). -/
def execRrcE (s : State) : Outcome := shiftOpd .rrc (.reg .e) s

/-- RRC H (R526). -/
def execRrcH (s : State) : Outcome := shiftOpd .rrc (.reg .h) s

/-- RRC L (R526). -/
def execRrcL (s : State) : Outcome := shiftOpd .rrc (.reg .l) s

/-- RRC (HL) (R527). -/
def execRrcIndHl (s : State) : Outcome := shiftOpd .rrc .indHl s

/-- RRC A (R526). -/
def execRrcA (s : State) : Outcome := shiftOpd .rrc (.reg .a) s

/-- RL B (R528). -/
def execRlB (s : State) : Outcome := shiftOpd .rl (.reg .b) s

/-- RL C (R528). -/
def execRlC (s : State) : Outcome := shiftOpd .rl (.reg .c) s

/-- RL D (R528). -/
def execRlD (s : State) : Outcome := shiftOpd .rl (.reg .d) s

/-- RL E (R528). -/
def execRlE (s : State) : Outcome := shiftOpd .rl (.reg .e) s

/-- RL H (R528). -/
def execRlH (s : State) : Outcome := shiftOpd .rl (.reg .h) s

/-- RL L (R528). -/
def execRlL (s : State) : Outcome := shiftOpd .rl (.reg .l) s

/-- RL (HL) (R529). -/
def execRlIndHl (s : State) : Outcome := shiftOpd .rl .indHl s

/-- RL A (R528). -/
def execRlA (s : State) : Outcome := shiftOpd .rl (.reg .a) s

/-- RR B (R530). -/
def execRrB (s : State) : Outcome := shiftOpd .rr (.reg .b) s

/-- RR C (R530). -/
def execRrC (s : State) : Outcome := shiftOpd .rr (.reg .c) s

/-- RR D (R530). -/
def execRrD (s : State) : Outcome := shiftOpd .rr (.reg .d) s

/-- RR E (R530). -/
def execRrE (s : State) : Outcome := shiftOpd .rr (.reg .e) s

/-- RR H (R530). -/
def execRrH (s : State) : Outcome := shiftOpd .rr (.reg .h) s

/-- RR L (R530). -/
def execRrL (s : State) : Outcome := shiftOpd .rr (.reg .l) s

/-- RR (HL) (R531). -/
def execRrIndHl (s : State) : Outcome := shiftOpd .rr .indHl s

/-- RR A (R530). -/
def execRrA (s : State) : Outcome := shiftOpd .rr (.reg .a) s

/-- SLA B (R532). -/
def execSlaB (s : State) : Outcome := shiftOpd .sla (.reg .b) s

/-- SLA C (R532). -/
def execSlaC (s : State) : Outcome := shiftOpd .sla (.reg .c) s

/-- SLA D (R532). -/
def execSlaD (s : State) : Outcome := shiftOpd .sla (.reg .d) s

/-- SLA E (R532). -/
def execSlaE (s : State) : Outcome := shiftOpd .sla (.reg .e) s

/-- SLA H (R532). -/
def execSlaH (s : State) : Outcome := shiftOpd .sla (.reg .h) s

/-- SLA L (R532). -/
def execSlaL (s : State) : Outcome := shiftOpd .sla (.reg .l) s

/-- SLA (HL) (R533). -/
def execSlaIndHl (s : State) : Outcome := shiftOpd .sla .indHl s

/-- SLA A (R532). -/
def execSlaA (s : State) : Outcome := shiftOpd .sla (.reg .a) s

/-- SRA B (R534). -/
def execSraB (s : State) : Outcome := shiftOpd .sra (.reg .b) s

/-- SRA C (R534). -/
def execSraC (s : State) : Outcome := shiftOpd .sra (.reg .c) s

/-- SRA D (R534). -/
def execSraD (s : State) : Outcome := shiftOpd .sra (.reg .d) s

/-- SRA E (R534). -/
def execSraE (s : State) : Outcome := shiftOpd .sra (.reg .e) s

/-- SRA H (R534). -/
def execSraH (s : State) : Outcome := shiftOpd .sra (.reg .h) s

/-- SRA L (R534). -/
def execSraL (s : State) : Outcome := shiftOpd .sra (.reg .l) s

/-- SRA (HL) (R535). -/
def execSraIndHl (s : State) : Outcome := shiftOpd .sra .indHl s

/-- SRA A (R534). -/
def execSraA (s : State) : Outcome := shiftOpd .sra (.reg .a) s

/-- SWAP B (R538). -/
def execSwapB (s : State) : Outcome := shiftOpd .swap (.reg .b) s

/-- SWAP C (R538). -/
def execSwapC (s : State) : Outcome := shiftOpd .swap (.reg .c) s

/-- SWAP D (R538). -/
def execSwapD (s : State) : Outcome := shiftOpd .swap (.reg .d) s

/-- SWAP E (R538). -/
def execSwapE (s : State) : Outcome := shiftOpd .swap (.reg .e) s

/-- SWAP H (R538). -/
def execSwapH (s : State) : Outcome := shiftOpd .swap (.reg .h) s

/-- SWAP L (R538). -/
def execSwapL (s : State) : Outcome := shiftOpd .swap (.reg .l) s

/-- SWAP (HL) (R539). -/
def execSwapIndHl (s : State) : Outcome := shiftOpd .swap .indHl s

/-- SWAP A (R538). -/
def execSwapA (s : State) : Outcome := shiftOpd .swap (.reg .a) s

/-- SRL B (R536). -/
def execSrlB (s : State) : Outcome := shiftOpd .srl (.reg .b) s

/-- SRL C (R536). -/
def execSrlC (s : State) : Outcome := shiftOpd .srl (.reg .c) s

/-- SRL D (R536). -/
def execSrlD (s : State) : Outcome := shiftOpd .srl (.reg .d) s

/-- SRL E (R536). -/
def execSrlE (s : State) : Outcome := shiftOpd .srl (.reg .e) s

/-- SRL H (R536). -/
def execSrlH (s : State) : Outcome := shiftOpd .srl (.reg .h) s

/-- SRL L (R536). -/
def execSrlL (s : State) : Outcome := shiftOpd .srl (.reg .l) s

/-- SRL (HL) (R537). -/
def execSrlIndHl (s : State) : Outcome := shiftOpd .srl .indHl s

/-- SRL A (R536). -/
def execSrlA (s : State) : Outcome := shiftOpd .srl (.reg .a) s

/-- BIT 0,B (R540). -/
def execBit0B (s : State) : Outcome := bitOpd 0 (.reg .b) s

/-- BIT 0,C (R540). -/
def execBit0C (s : State) : Outcome := bitOpd 0 (.reg .c) s

/-- BIT 0,D (R540). -/
def execBit0D (s : State) : Outcome := bitOpd 0 (.reg .d) s

/-- BIT 0,E (R540). -/
def execBit0E (s : State) : Outcome := bitOpd 0 (.reg .e) s

/-- BIT 0,H (R540). -/
def execBit0H (s : State) : Outcome := bitOpd 0 (.reg .h) s

/-- BIT 0,L (R540). -/
def execBit0L (s : State) : Outcome := bitOpd 0 (.reg .l) s

/-- BIT 0,(HL) (R541). -/
def execBit0IndHl (s : State) : Outcome := bitOpd 0 .indHl s

/-- BIT 0,A (R540). -/
def execBit0A (s : State) : Outcome := bitOpd 0 (.reg .a) s

/-- BIT 1,B (R540). -/
def execBit1B (s : State) : Outcome := bitOpd 1 (.reg .b) s

/-- BIT 1,C (R540). -/
def execBit1C (s : State) : Outcome := bitOpd 1 (.reg .c) s

/-- BIT 1,D (R540). -/
def execBit1D (s : State) : Outcome := bitOpd 1 (.reg .d) s

/-- BIT 1,E (R540). -/
def execBit1E (s : State) : Outcome := bitOpd 1 (.reg .e) s

/-- BIT 1,H (R540). -/
def execBit1H (s : State) : Outcome := bitOpd 1 (.reg .h) s

/-- BIT 1,L (R540). -/
def execBit1L (s : State) : Outcome := bitOpd 1 (.reg .l) s

/-- BIT 1,(HL) (R541). -/
def execBit1IndHl (s : State) : Outcome := bitOpd 1 .indHl s

/-- BIT 1,A (R540). -/
def execBit1A (s : State) : Outcome := bitOpd 1 (.reg .a) s

/-- BIT 2,B (R540). -/
def execBit2B (s : State) : Outcome := bitOpd 2 (.reg .b) s

/-- BIT 2,C (R540). -/
def execBit2C (s : State) : Outcome := bitOpd 2 (.reg .c) s

/-- BIT 2,D (R540). -/
def execBit2D (s : State) : Outcome := bitOpd 2 (.reg .d) s

/-- BIT 2,E (R540). -/
def execBit2E (s : State) : Outcome := bitOpd 2 (.reg .e) s

/-- BIT 2,H (R540). -/
def execBit2H (s : State) : Outcome := bitOpd 2 (.reg .h) s

/-- BIT 2,L (R540). -/
def execBit2L (s : State) : Outcome := bitOpd 2 (.reg .l) s

/-- BIT 2,(HL) (R541). -/
def execBit2IndHl (s : State) : Outcome := bitOpd 2 .indHl s

/-- BIT 2,A (R540). -/
def execBit2A (s : State) : Outcome := bitOpd 2 (.reg .a) s

/-- BIT 3,B (R540). -/
def execBit3B (s : State) : Outcome := bitOpd 3 (.reg .b) s

/-- BIT 3,C (R540). -/
def execBit3C (s : State) : Outcome := bitOpd 3 (.reg .c) s

/-- BIT 3,D (R540). -/
def execBit3D (s : State) : Outcome := bitOpd 3 (.reg .d) s

/-- BIT 3,E (R540). -/
def execBit3E (s : State) : Outcome := bitOpd 3 (.reg .e) s

/-- BIT 3,H (R540). -/
def execBit3H (s : State) : Outcome := bitOpd 3 (.reg .h) s

/-- BIT 3,L (R540). -/
def execBit3L (s : State) : Outcome := bitOpd 3 (.reg .l) s

/-- BIT 3,(HL) (R541). -/
def execBit3IndHl (s : State) : Outcome := bitOpd 3 .indHl s

/-- BIT 3,A (R540). -/
def execBit3A (s : State) : Outcome := bitOpd 3 (.reg .a) s

/-- BIT 4,B (R540). -/
def execBit4B (s : State) : Outcome := bitOpd 4 (.reg .b) s

/-- BIT 4,C (R540). -/
def execBit4C (s : State) : Outcome := bitOpd 4 (.reg .c) s

/-- BIT 4,D (R540). -/
def execBit4D (s : State) : Outcome := bitOpd 4 (.reg .d) s

/-- BIT 4,E (R540). -/
def execBit4E (s : State) : Outcome := bitOpd 4 (.reg .e) s

/-- BIT 4,H (R540). -/
def execBit4H (s : State) : Outcome := bitOpd 4 (.reg .h) s

/-- BIT 4,L (R540). -/
def execBit4L (s : State) : Outcome := bitOpd 4 (.reg .l) s

/-- BIT 4,(HL) (R541). -/
def execBit4IndHl (s : State) : Outcome := bitOpd 4 .indHl s

/-- BIT 4,A (R540). -/
def execBit4A (s : State) : Outcome := bitOpd 4 (.reg .a) s

/-- BIT 5,B (R540). -/
def execBit5B (s : State) : Outcome := bitOpd 5 (.reg .b) s

/-- BIT 5,C (R540). -/
def execBit5C (s : State) : Outcome := bitOpd 5 (.reg .c) s

/-- BIT 5,D (R540). -/
def execBit5D (s : State) : Outcome := bitOpd 5 (.reg .d) s

/-- BIT 5,E (R540). -/
def execBit5E (s : State) : Outcome := bitOpd 5 (.reg .e) s

/-- BIT 5,H (R540). -/
def execBit5H (s : State) : Outcome := bitOpd 5 (.reg .h) s

/-- BIT 5,L (R540). -/
def execBit5L (s : State) : Outcome := bitOpd 5 (.reg .l) s

/-- BIT 5,(HL) (R541). -/
def execBit5IndHl (s : State) : Outcome := bitOpd 5 .indHl s

/-- BIT 5,A (R540). -/
def execBit5A (s : State) : Outcome := bitOpd 5 (.reg .a) s

/-- BIT 6,B (R540). -/
def execBit6B (s : State) : Outcome := bitOpd 6 (.reg .b) s

/-- BIT 6,C (R540). -/
def execBit6C (s : State) : Outcome := bitOpd 6 (.reg .c) s

/-- BIT 6,D (R540). -/
def execBit6D (s : State) : Outcome := bitOpd 6 (.reg .d) s

/-- BIT 6,E (R540). -/
def execBit6E (s : State) : Outcome := bitOpd 6 (.reg .e) s

/-- BIT 6,H (R540). -/
def execBit6H (s : State) : Outcome := bitOpd 6 (.reg .h) s

/-- BIT 6,L (R540). -/
def execBit6L (s : State) : Outcome := bitOpd 6 (.reg .l) s

/-- BIT 6,(HL) (R541). -/
def execBit6IndHl (s : State) : Outcome := bitOpd 6 .indHl s

/-- BIT 6,A (R540). -/
def execBit6A (s : State) : Outcome := bitOpd 6 (.reg .a) s

/-- BIT 7,B (R540). -/
def execBit7B (s : State) : Outcome := bitOpd 7 (.reg .b) s

/-- BIT 7,C (R540). -/
def execBit7C (s : State) : Outcome := bitOpd 7 (.reg .c) s

/-- BIT 7,D (R540). -/
def execBit7D (s : State) : Outcome := bitOpd 7 (.reg .d) s

/-- BIT 7,E (R540). -/
def execBit7E (s : State) : Outcome := bitOpd 7 (.reg .e) s

/-- BIT 7,H (R540). -/
def execBit7H (s : State) : Outcome := bitOpd 7 (.reg .h) s

/-- BIT 7,L (R540). -/
def execBit7L (s : State) : Outcome := bitOpd 7 (.reg .l) s

/-- BIT 7,(HL) (R541). -/
def execBit7IndHl (s : State) : Outcome := bitOpd 7 .indHl s

/-- BIT 7,A (R540). -/
def execBit7A (s : State) : Outcome := bitOpd 7 (.reg .a) s

/-- RES 0,B (R542). -/
def execRes0B (s : State) : Outcome := resOpd 0 (.reg .b) s

/-- RES 0,C (R542). -/
def execRes0C (s : State) : Outcome := resOpd 0 (.reg .c) s

/-- RES 0,D (R542). -/
def execRes0D (s : State) : Outcome := resOpd 0 (.reg .d) s

/-- RES 0,E (R542). -/
def execRes0E (s : State) : Outcome := resOpd 0 (.reg .e) s

/-- RES 0,H (R542). -/
def execRes0H (s : State) : Outcome := resOpd 0 (.reg .h) s

/-- RES 0,L (R542). -/
def execRes0L (s : State) : Outcome := resOpd 0 (.reg .l) s

/-- RES 0,(HL) (R543). -/
def execRes0IndHl (s : State) : Outcome := resOpd 0 .indHl s

/-- RES 0,A (R542). -/
def execRes0A (s : State) : Outcome := resOpd 0 (.reg .a) s

/-- RES 1,B (R542). -/
def execRes1B (s : State) : Outcome := resOpd 1 (.reg .b) s

/-- RES 1,C (R542). -/
def execRes1C (s : State) : Outcome := resOpd 1 (.reg .c) s

/-- RES 1,D (R542). -/
def execRes1D (s : State) : Outcome := resOpd 1 (.reg .d) s

/-- RES 1,E (R542). -/
def execRes1E (s : State) : Outcome := resOpd 1 (.reg .e) s

/-- RES 1,H (R542). -/
def execRes1H (s : State) : Outcome := resOpd 1 (.reg .h) s

/-- RES 1,L (R542). -/
def execRes1L (s : State) : Outcome := resOpd 1 (.reg .l) s

/-- RES 1,(HL) (R543). -/
def execRes1IndHl (s : State) : Outcome := resOpd 1 .indHl s

/-- RES 1,A (R542). -/
def execRes1A (s : State) : Outcome := resOpd 1 (.reg .a) s

/-- RES 2,B (R542). -/
def execRes2B (s : State) : Outcome := resOpd 2 (.reg .b) s

/-- RES 2,C (R542). -/
def execRes2C (s : State) : Outcome := resOpd 2 (.reg .c) s

/-- RES 2,D (R542). -/
def execRes2D (s : State) : Outcome := resOpd 2 (.reg .d) s

/-- RES 2,E (R542). -/
def execRes2E (s : State) : Outcome := resOpd 2 (.reg .e) s

/-- RES 2,H (R542). -/
def execRes2H (s : State) : Outcome := resOpd 2 (.reg .h) s

/-- RES 2,L (R542). -/
def execRes2L (s : State) : Outcome := resOpd 2 (.reg .l) s

/-- RES 2,(HL) (R543). -/
def execRes2IndHl (s : State) : Outcome := resOpd 2 .indHl s

/-- RES 2,A (R542). -/
def execRes2A (s : State) : Outcome := resOpd 2 (.reg .a) s

/-- RES 3,B (R542). -/
def execRes3B (s : State) : Outcome := resOpd 3 (.reg .b) s

/-- RES 3,C (R542). -/
def execRes3C (s : State) : Outcome := resOpd 3 (.reg .c) s

/-- RES 3,D (R542). -/
def execRes3D (s : State) : Outcome := resOpd 3 (.reg .d) s

/-- RES 3,E (R542). -/
def execRes3E (s : State) : Outcome := resOpd 3 (.reg .e) s

/-- RES 3,H (R542). -/
def execRes3H (s : State) : Outcome := resOpd 3 (.reg .h) s

/-- RES 3,L (R542). -/
def execRes3L (s : State) : Outcome := resOpd 3 (.reg .l) s

/-- RES 3,(HL) (R543). -/
def execRes3IndHl (s : State) : Outcome := resOpd 3 .indHl s

/-- RES 3,A (R542). -/
def execRes3A (s : State) : Outcome := resOpd 3 (.reg .a) s

/-- RES 4,B (R542). -/
def execRes4B (s : State) : Outcome := resOpd 4 (.reg .b) s

/-- RES 4,C (R542). -/
def execRes4C (s : State) : Outcome := resOpd 4 (.reg .c) s

/-- RES 4,D (R542). -/
def execRes4D (s : State) : Outcome := resOpd 4 (.reg .d) s

/-- RES 4,E (R542). -/
def execRes4E (s : State) : Outcome := resOpd 4 (.reg .e) s

/-- RES 4,H (R542). -/
def execRes4H (s : State) : Outcome := resOpd 4 (.reg .h) s

/-- RES 4,L (R542). -/
def execRes4L (s : State) : Outcome := resOpd 4 (.reg .l) s

/-- RES 4,(HL) (R543). -/
def execRes4IndHl (s : State) : Outcome := resOpd 4 .indHl s

/-- RES 4,A (R542). -/
def execRes4A (s : State) : Outcome := resOpd 4 (.reg .a) s

/-- RES 5,B (R542). -/
def execRes5B (s : State) : Outcome := resOpd 5 (.reg .b) s

/-- RES 5,C (R542). -/
def execRes5C (s : State) : Outcome := resOpd 5 (.reg .c) s

/-- RES 5,D (R542). -/
def execRes5D (s : State) : Outcome := resOpd 5 (.reg .d) s

/-- RES 5,E (R542). -/
def execRes5E (s : State) : Outcome := resOpd 5 (.reg .e) s

/-- RES 5,H (R542). -/
def execRes5H (s : State) : Outcome := resOpd 5 (.reg .h) s

/-- RES 5,L (R542). -/
def execRes5L (s : State) : Outcome := resOpd 5 (.reg .l) s

/-- RES 5,(HL) (R543). -/
def execRes5IndHl (s : State) : Outcome := resOpd 5 .indHl s

/-- RES 5,A (R542). -/
def execRes5A (s : State) : Outcome := resOpd 5 (.reg .a) s

/-- RES 6,B (R542). -/
def execRes6B (s : State) : Outcome := resOpd 6 (.reg .b) s

/-- RES 6,C (R542). -/
def execRes6C (s : State) : Outcome := resOpd 6 (.reg .c) s

/-- RES 6,D (R542). -/
def execRes6D (s : State) : Outcome := resOpd 6 (.reg .d) s

/-- RES 6,E (R542). -/
def execRes6E (s : State) : Outcome := resOpd 6 (.reg .e) s

/-- RES 6,H (R542). -/
def execRes6H (s : State) : Outcome := resOpd 6 (.reg .h) s

/-- RES 6,L (R542). -/
def execRes6L (s : State) : Outcome := resOpd 6 (.reg .l) s

/-- RES 6,(HL) (R543). -/
def execRes6IndHl (s : State) : Outcome := resOpd 6 .indHl s

/-- RES 6,A (R542). -/
def execRes6A (s : State) : Outcome := resOpd 6 (.reg .a) s

/-- RES 7,B (R542). -/
def execRes7B (s : State) : Outcome := resOpd 7 (.reg .b) s

/-- RES 7,C (R542). -/
def execRes7C (s : State) : Outcome := resOpd 7 (.reg .c) s

/-- RES 7,D (R542). -/
def execRes7D (s : State) : Outcome := resOpd 7 (.reg .d) s

/-- RES 7,E (R542). -/
def execRes7E (s : State) : Outcome := resOpd 7 (.reg .e) s

/-- RES 7,H (R542). -/
def execRes7H (s : State) : Outcome := resOpd 7 (.reg .h) s

/-- RES 7,L (R542). -/
def execRes7L (s : State) : Outcome := resOpd 7 (.reg .l) s

/-- RES 7,(HL) (R543). -/
def execRes7IndHl (s : State) : Outcome := resOpd 7 .indHl s

/-- RES 7,A (R542). -/
def execRes7A (s : State) : Outcome := resOpd 7 (.reg .a) s

/-- SET 0,B (R544). -/
def execSet0B (s : State) : Outcome := setOpd 0 (.reg .b) s

/-- SET 0,C (R544). -/
def execSet0C (s : State) : Outcome := setOpd 0 (.reg .c) s

/-- SET 0,D (R544). -/
def execSet0D (s : State) : Outcome := setOpd 0 (.reg .d) s

/-- SET 0,E (R544). -/
def execSet0E (s : State) : Outcome := setOpd 0 (.reg .e) s

/-- SET 0,H (R544). -/
def execSet0H (s : State) : Outcome := setOpd 0 (.reg .h) s

/-- SET 0,L (R544). -/
def execSet0L (s : State) : Outcome := setOpd 0 (.reg .l) s

/-- SET 0,(HL) (R545). -/
def execSet0IndHl (s : State) : Outcome := setOpd 0 .indHl s

/-- SET 0,A (R544). -/
def execSet0A (s : State) : Outcome := setOpd 0 (.reg .a) s

/-- SET 1,B (R544). -/
def execSet1B (s : State) : Outcome := setOpd 1 (.reg .b) s

/-- SET 1,C (R544). -/
def execSet1C (s : State) : Outcome := setOpd 1 (.reg .c) s

/-- SET 1,D (R544). -/
def execSet1D (s : State) : Outcome := setOpd 1 (.reg .d) s

/-- SET 1,E (R544). -/
def execSet1E (s : State) : Outcome := setOpd 1 (.reg .e) s

/-- SET 1,H (R544). -/
def execSet1H (s : State) : Outcome := setOpd 1 (.reg .h) s

/-- SET 1,L (R544). -/
def execSet1L (s : State) : Outcome := setOpd 1 (.reg .l) s

/-- SET 1,(HL) (R545). -/
def execSet1IndHl (s : State) : Outcome := setOpd 1 .indHl s

/-- SET 1,A (R544). -/
def execSet1A (s : State) : Outcome := setOpd 1 (.reg .a) s

/-- SET 2,B (R544). -/
def execSet2B (s : State) : Outcome := setOpd 2 (.reg .b) s

/-- SET 2,C (R544). -/
def execSet2C (s : State) : Outcome := setOpd 2 (.reg .c) s

/-- SET 2,D (R544). -/
def execSet2D (s : State) : Outcome := setOpd 2 (.reg .d) s

/-- SET 2,E (R544). -/
def execSet2E (s : State) : Outcome := setOpd 2 (.reg .e) s

/-- SET 2,H (R544). -/
def execSet2H (s : State) : Outcome := setOpd 2 (.reg .h) s

/-- SET 2,L (R544). -/
def execSet2L (s : State) : Outcome := setOpd 2 (.reg .l) s

/-- SET 2,(HL) (R545). -/
def execSet2IndHl (s : State) : Outcome := setOpd 2 .indHl s

/-- SET 2,A (R544). -/
def execSet2A (s : State) : Outcome := setOpd 2 (.reg .a) s

/-- SET 3,B (R544). -/
def execSet3B (s : State) : Outcome := setOpd 3 (.reg .b) s

/-- SET 3,C (R544). -/
def execSet3C (s : State) : Outcome := setOpd 3 (.reg .c) s

/-- SET 3,D (R544). -/
def execSet3D (s : State) : Outcome := setOpd 3 (.reg .d) s

/-- SET 3,E (R544). -/
def execSet3E (s : State) : Outcome := setOpd 3 (.reg .e) s

/-- SET 3,H (R544). -/
def execSet3H (s : State) : Outcome := setOpd 3 (.reg .h) s

/-- SET 3,L (R544). -/
def execSet3L (s : State) : Outcome := setOpd 3 (.reg .l) s

/-- SET 3,(HL) (R545). -/
def execSet3IndHl (s : State) : Outcome := setOpd 3 .indHl s

/-- SET 3,A (R544). -/
def execSet3A (s : State) : Outcome := setOpd 3 (.reg .a) s

/-- SET 4,B (R544). -/
def execSet4B (s : State) : Outcome := setOpd 4 (.reg .b) s

/-- SET 4,C (R544). -/
def execSet4C (s : State) : Outcome := setOpd 4 (.reg .c) s

/-- SET 4,D (R544). -/
def execSet4D (s : State) : Outcome := setOpd 4 (.reg .d) s

/-- SET 4,E (R544). -/
def execSet4E (s : State) : Outcome := setOpd 4 (.reg .e) s

/-- SET 4,H (R544). -/
def execSet4H (s : State) : Outcome := setOpd 4 (.reg .h) s

/-- SET 4,L (R544). -/
def execSet4L (s : State) : Outcome := setOpd 4 (.reg .l) s

/-- SET 4,(HL) (R545). -/
def execSet4IndHl (s : State) : Outcome := setOpd 4 .indHl s

/-- SET 4,A (R544). -/
def execSet4A (s : State) : Outcome := setOpd 4 (.reg .a) s

/-- SET 5,B (R544). -/
def execSet5B (s : State) : Outcome := setOpd 5 (.reg .b) s

/-- SET 5,C (R544). -/
def execSet5C (s : State) : Outcome := setOpd 5 (.reg .c) s

/-- SET 5,D (R544). -/
def execSet5D (s : State) : Outcome := setOpd 5 (.reg .d) s

/-- SET 5,E (R544). -/
def execSet5E (s : State) : Outcome := setOpd 5 (.reg .e) s

/-- SET 5,H (R544). -/
def execSet5H (s : State) : Outcome := setOpd 5 (.reg .h) s

/-- SET 5,L (R544). -/
def execSet5L (s : State) : Outcome := setOpd 5 (.reg .l) s

/-- SET 5,(HL) (R545). -/
def execSet5IndHl (s : State) : Outcome := setOpd 5 .indHl s

/-- SET 5,A (R544). -/
def execSet5A (s : State) : Outcome := setOpd 5 (.reg .a) s

/-- SET 6,B (R544). -/
def execSet6B (s : State) : Outcome := setOpd 6 (.reg .b) s

/-- SET 6,C (R544). -/
def execSet6C (s : State) : Outcome := setOpd 6 (.reg .c) s

/-- SET 6,D (R544). -/
def execSet6D (s : State) : Outcome := setOpd 6 (.reg .d) s

/-- SET 6,E (R544). -/
def execSet6E (s : State) : Outcome := setOpd 6 (.reg .e) s

/-- SET 6,H (R544). -/
def execSet6H (s : State) : Outcome := setOpd 6 (.reg .h) s

/-- SET 6,L (R544). -/
def execSet6L (s : State) : Outcome := setOpd 6 (.reg .l) s

/-- SET 6,(HL) (R545). -/
def execSet6IndHl (s : State) : Outcome := setOpd 6 .indHl s

/-- SET 6,A (R544). -/
def execSet6A (s : State) : Outcome := setOpd 6 (.reg .a) s

/-- SET 7,B (R544). -/
def execSet7B (s : State) : Outcome := setOpd 7 (.reg .b) s

/-- SET 7,C (R544). -/
def execSet7C (s : State) : Outcome := setOpd 7 (.reg .c) s

/-- SET 7,D (R544). -/
def execSet7D (s : State) : Outcome := setOpd 7 (.reg .d) s

/-- SET 7,E (R544). -/
def execSet7E (s : State) : Outcome := setOpd 7 (.reg .e) s

/-- SET 7,H (R544). -/
def execSet7H (s : State) : Outcome := setOpd 7 (.reg .h) s

/-- SET 7,L (R544). -/
def execSet7L (s : State) : Outcome := setOpd 7 (.reg .l) s

/-- SET 7,(HL) (R545). -/
def execSet7IndHl (s : State) : Outcome := setOpd 7 .indHl s

/-- SET 7,A (R544). -/
def execSet7A (s : State) : Outcome := setOpd 7 (.reg .a) s

/-- The CB-table entry of a second byte by its fields x, y and z (R301): what the prefix runs. -/
def cbEntry (op2 : Byte) (s : State) : Outcome :=
  let y := field3 op2 3
  let o := Opd.ofCode (field3 op2 0)
  match op2.toNat / 64 with
  | 0 => shiftOpd (ShiftOp.ofCode y) o s
  | 1 => bitOpd y o s
  | 2 => resOpd y o s
  | _ => setOpd y o s

/-- PREFIX CB (R595). -/
def execPrefixCb (op2 : Byte) (s : State) : Outcome := cbEntry op2 s

end Sys2Proof.Machine
end

