-- ==== Sys2Proof/Machine/Cpu.lean ====
section
/-! DEFINITION. One CPU step (spec 70_reset_and_hazards.md R720). -/

namespace Sys2Proof.Machine

/-- Fetch one instruction and run its rule, then the promotion and the DMA ticks (R304, R720). -/
def instrStep (s : State) : Outcome :=
  match fetchInstr s with
  | .stop t => .next t
  | .ok i t =>
    match exec i t with
    | .next u => afterInstr s u
    | .fault r => .fault r
    | .refused r => .refused r

/-- A running core at a boundary: dispatch if one is due, else an instruction (R614, R720). -/
def activeStep (s : State) : Outcome :=
  if s.dispatchDue then dispatchStep s else instrStep s

/-- The CPU's step by run mode (R720, R620); a faulted core takes none (R600). -/
def cpuStep (s : State) : Outcome :=
  match s.mode with
  | .faulted => .fault (.faulted s.fault)
  | .stopped => stoppedStep s
  | .halted => if s.pending = 0 then haltedStep s else activeStep s.awake
  | .running => activeStep s

/-- The environment's moves of this boundary, then the CPU's step (R690, R720); from a faulted state "no agent takes a
step" (R600). -/
def boundaryStep (s : State) : Outcome :=
  if s.mode = .faulted then .fault (.faulted s.fault) else cpuStep s.takeEnv

end Sys2Proof.Machine
end

