-- ==== Sys2Proof/Machine/Place.lean ====
section
/-! DEFINITION. Putting an instruction's bytes where the next fetch reads them: the host's stand-in for loading a
program (log entry 6). No rule of the spec is modelled here. -/

namespace Sys2Proof.Machine

/-- A store holds the byte that a fetch at the address reads. -/
def State.placeable (s : State) (a : Addr) : Bool :=
  match s.locate a with
  | .rom _ => true
  | _ => s.plain a

/-- The byte put into the store that a fetch at the address reads, the cartridge image included. -/
def State.place (s : State) (a : Addr) (v : Byte) : State :=
  match s.locate a with
  | .rom off => { s with rom := s.rom.write off v }
  | .vram off => { s with vram := s.vram.write off v }
  | .ext (.ram off) => { s with cartRam := s.cartRam.write off v }
  | .wram off => { s with wram := s.wram.write off v }
  | .oam off => { s with oam := s.oam.write off v }
  | .hram off => { s with hram := s.hram.write off v }
  | _ => s

/-- Bytes at consecutive addresses. -/
def State.placeAll (s : State) (a : Addr) : List Byte → State
  | [] => s
  | v :: vs => (s.place a v).placeAll (a + 1) vs

/-- The next step fetches at pc: the core runs, no dispatch is due, the HALT bug is not armed, the environment makes
no move first, and the DMA sequencer does not keep the fetch off the bus. -/
def State.readyToFetch (s : State) : State :=
  { s with
    mode := .running
    fault := none
    haltBug := false
    ime := s.ime && s.pending == 0
    schedule := match s.schedule with
      | [] => []
      | _ :: rest => [] :: rest
    dma := { s.dma with active := s.dma.active && inHram s.regs.pc && inHram (s.regs.pc + 1) && inHram (s.regs.pc + 2) } }

/-- Where the bytes go: at pc, or at 0xC000 when a region without storage stands at pc. -/
def State.placeAddress (s : State) : Addr :=
  if s.placeable s.regs.pc && s.placeable (s.regs.pc + 1) && s.placeable (s.regs.pc + 2) then s.regs.pc else 0xC000

/-- The state whose next step fetches and runs the instruction of an opcode-table word. -/
def State.placeWord (s : State) (nbits w : Nat) : State :=
  let t := s.readyToFetch
  (t.setPc t.placeAddress).placeAll t.placeAddress (tableBytes nbits w)

end Sys2Proof.Machine
end

