-- ==== Sys2Proof/Machine/Step.lean ====
section
/-! DEFINITION. The machine's step. -/

namespace Sys2Proof.Machine

/-- One step of the machine (spec 70_reset_and_hazards.md R720, 60_exceptions.md R600, R690). -/
def step (s : State) : Host.Outcome State Fault Refusal := boundaryStep s

/-- `s` with the instruction of an opcode-table word stored where the next step fetches (log entry 6). -/
def State.withFetchWord (s : State) (nbits w : Nat) : State := s.placeWord nbits w

end Sys2Proof.Machine
end

