-- ==== Sys2Proof/Machine/Load.lean ====
section
/-! DEFINITION. Loading a cartridge image: the header, construction, and the reset state it gives
(spec 20_memory.md R224 to R232, 70_reset_and_hazards.md R700 to R710). -/

namespace Sys2Proof.Machine

/-! ## The header (R226) -/

/-- The header's fields, in the order of their offsets (R226). -/
structure Header where
  entryPoint : List Byte
  logo : List Byte
  title : List Byte
  manufacturer : List Byte
  cgbFlag : Byte
  newLicensee : List Byte
  sgbFlag : Byte
  typeCode : Byte
  romSizeCode : Byte
  ramSizeCode : Byte
  destination : Byte
  oldLicensee : Byte
  version : Byte
  headerChecksum : Byte
  globalChecksum : Addr
  deriving DecidableEq, Repr

/-- An image byte; past the end, zero (no rule reads one: R230 step 1). -/
def imageByte (image : List Byte) (off : Nat) : Byte := image.getD off 0

/-- The header of an image (R226). -/
def Header.parse (image : List Byte) : Header where
  entryPoint := (image.drop 0x0100).take 4
  logo := (image.drop 0x0104).take 48
  title := (image.drop 0x0134).take 16
  manufacturer := (image.drop 0x013F).take 4
  cgbFlag := imageByte image 0x0143
  newLicensee := (image.drop 0x0144).take 2
  sgbFlag := imageByte image 0x0146
  typeCode := imageByte image 0x0147
  romSizeCode := imageByte image 0x0148
  ramSizeCode := imageByte image 0x0149
  destination := imageByte image 0x014A
  oldLicensee := imageByte image 0x014B
  version := imageByte image 0x014C
  headerChecksum := imageByte image 0x014D
  globalChecksum := imageByte image 0x014E ++ imageByte image 0x014F

/-- What the header checksum byte should be (R226); no rule refuses an image for it (D28). -/
def headerChecksumOf (image : List Byte) : Byte :=
  ((image.drop 0x0134).take 25).foldl (fun x v => x - v - 1) 0

/-- What the global checksum should be: the sum of every image byte but its own two (R226, D28). -/
def globalChecksumOf (image : List Byte) : Addr :=
  ((image.take 0x014E) ++ (image.drop 0x0150)).foldl (fun x v => x + v.zeroExtend 16) 0

/-! ## The code tables (R227, R228, R229) -/

/-- ROM-size code to bank count (R227). -/
def romBanksOf (code : Byte) : Option Nat :=
  match code.toNat with
  | 0x00 => some 2
  | 0x01 => some 4
  | 0x02 => some 8
  | 0x03 => some 16
  | 0x04 => some 32
  | 0x05 => some 64
  | 0x06 => some 128
  | 0x07 => some 256
  | 0x08 => some 512
  | _ => none

/-- RAM-size code to bank count (R228). -/
def ramBanksOf (code : Byte) : Option Nat :=
  match code.toNat with
  | 0x00 => some 0
  | 0x02 => some 1
  | 0x03 => some 4
  | 0x04 => some 16
  | 0x05 => some 8
  | _ => none

/-- The five variants (R232). -/
inductive Variant where
  | noMbc | mbc1 | mbc2 | mbc3 | mbc5
  deriving DecidableEq, Repr

/-- A row of the cartridge-type table (R229). `ram` is the RAM that a RAM-size code sizes: MBC2's built-in nibbles
are not (R228). -/
structure CartType where
  variant : Variant
  ram : Bool
  battery : Bool
  timer : Bool
  rumble : Bool
  deriving DecidableEq, Repr

/-- The cartridge-type codes the core accepts (R229). -/
def cartTypeOf (code : Byte) : Option CartType :=
  match code.toNat with
  | 0x00 => some ⟨.noMbc, false, false, false, false⟩
  | 0x08 => some ⟨.noMbc, true, false, false, false⟩
  | 0x09 => some ⟨.noMbc, true, true, false, false⟩
  | 0x01 => some ⟨.mbc1, false, false, false, false⟩
  | 0x02 => some ⟨.mbc1, true, false, false, false⟩
  | 0x03 => some ⟨.mbc1, true, true, false, false⟩
  | 0x05 => some ⟨.mbc2, false, false, false, false⟩
  | 0x06 => some ⟨.mbc2, false, true, false, false⟩
  | 0x0F => some ⟨.mbc3, false, true, true, false⟩
  | 0x10 => some ⟨.mbc3, true, true, true, false⟩
  | 0x11 => some ⟨.mbc3, false, false, false, false⟩
  | 0x12 => some ⟨.mbc3, true, false, false, false⟩
  | 0x13 => some ⟨.mbc3, true, true, false, false⟩
  | 0x19 => some ⟨.mbc5, false, false, false, false⟩
  | 0x1A => some ⟨.mbc5, true, false, false, false⟩
  | 0x1B => some ⟨.mbc5, true, true, false, false⟩
  | 0x1C => some ⟨.mbc5, false, false, false, true⟩
  | 0x1D => some ⟨.mbc5, true, false, false, true⟩
  | 0x1E => some ⟨.mbc5, true, true, false, true⟩
  | _ => none

/-- The largest ROM-size code of a variant (R230 step 3). -/
def maxRomCode : Variant → Nat
  | .noMbc => 0x00
  | .mbc1 => 0x06
  | .mbc2 => 0x03
  | .mbc3 => 0x06
  | .mbc5 => 0x08

/-- The largest RAM-size code of a variant (R230 step 4); no MBC2 type declares RAM. -/
def maxRamCode : Variant → Nat
  | .noMbc => 0x02
  | .mbc1 => 0x03
  | .mbc2 => 0x00
  | .mbc3 => 0x05
  | .mbc5 => 0x04

/-! ## Construction (R230, R231) -/

/-- The construction errors (R603); each reports "the exact unsupported value" (R231). -/
inductive ConstructionError where
  | headerTruncated
  | unsupportedCartridgeType (code : Byte)
  | unsupportedRomSize (code : Byte)
  | unsupportedRamSize (code : Byte)
  | imageSizeMismatch (length : Nat)
  deriving DecidableEq, Repr

/-- `RtcInitial` (R706, D8). -/
structure RtcInitial where
  live : Rtc
  latched : Rtc
  deriving DecidableEq, Repr

/-- The register file of a variant at its reset values (R122, R707). -/
def Mbc.atReset (v : Variant) (rtc : RtcInitial) : Mbc :=
  match v with
  | .noMbc => .noMbc
  | .mbc1 => .mbc1 { ramEnable := false, bank1 := 0, bank2 := 0, mode := false }
  | .mbc2 => .mbc2 { ramEnable := false, romBank := 0 }
  | .mbc3 => .mbc3 { ramTimerEnable := false, romBank := 0, select := 0, latchArmed := false,
                     live := rtc.live, latched := rtc.latched }
  | .mbc5 => .mbc5 { ramEnable := false, romBankLo := 1, romBankHi := 0, ramBank := 0, rumble := false }

/-- Bank count of a ROM-size code that a variant accepts (R230 step 3). -/
def acceptedRomBanks (v : Variant) (code : Byte) : Option Nat :=
  if code.toNat ≤ maxRomCode v then romBanksOf code else none

/-- Bank count of cartridge RAM: 0 for a type that declares none, "whatever the code" (R228, R230 step 4). -/
def acceptedRamBanks (t : CartType) (code : Byte) : Option Nat :=
  if t.ram then (if code.toNat ≤ maxRamCode t.variant then ramBanksOf code else none) else some 0

/-- Construction, in the order of R230's steps. -/
def construct (image : List Byte) (rtc : RtcInitial) : Except ConstructionError Cart :=
  let hdr := Header.parse image
  if image.length < 0x0150 then .error .headerTruncated
  else match cartTypeOf hdr.typeCode with
    | none => .error (.unsupportedCartridgeType hdr.typeCode)
    | some t =>
      match acceptedRomBanks t.variant hdr.romSizeCode with
      | none => .error (.unsupportedRomSize hdr.romSizeCode)
      | some roms =>
        match acceptedRamBanks t hdr.ramSizeCode with
        | none => .error (.unsupportedRamSize hdr.ramSizeCode)
        | some rams =>
          if image.length ≠ roms * 0x4000 then .error (.imageSizeMismatch image.length)
          else .ok { typeCode := hdr.typeCode, battery := t.battery, timer := t.timer, rumble := t.rumble,
                     romBanks := roms, ramBanks := rams, mbc := .atReset t.variant rtc }

/-- `GetType()` (R232). -/
def Cart.getType (c : Cart) : Byte := c.typeCode

/-- `Load(image)` (R690, R710): a core at its reset state for the run's parameters, or a construction error and no
core. -/
def load (p : Params) (boot : BootRegs) (ifReset : Byte) (mem : InitialMemory) (rtc : RtcInitial)
    (image : List Byte) : Except ConstructionError State :=
  match construct image rtc with
  | .error e => .error e
  | .ok cart => .ok (.resetWith p boot ifReset mem cart (Memory.ofBytes image 0))

/-- The DMG post-boot registers for an image, with F derived from the header checksum byte (R701). -/
def BootRegs.dmgFor (image : List Byte) : BootRegs :=
  if imageByte image 0x014D = 0 then { BootRegs.dmg with f := 0x80 } else .dmg

end Sys2Proof.Machine
end

