-- ==== Sys2Proof/Safety.lean ====
section
/-! DEFINITION. The terms statements use: which bus transactions fault, what an operation leaves unchanged, the
invariants of a state (spec 60_exceptions.md R602). The end of a run stands in Machine/EndOfRun.lean. -/

namespace Sys2Proof.Machine

/-! ## Bus faults (R602), by the spec's own conditions -/

/-- An address outside 0xFF80-0xFFFE while the DMA sequencer is active (R654). -/
abbrev State.conflicts (s : State) (a : Addr) : Prop :=
  s.dma.active = true ∧ ¬(0xFF80 ≤ a.toNat ∧ a.toNat ≤ 0xFFFE)

/-- A read of the address raises a fault (R654, R207, R208). -/
abbrev State.readFaults (s : State) (a : Addr) : Prop :=
  s.conflicts a
  ∨ (s.params.echoPolicy = .fault ∧ 0xE000 ≤ a.toNat ∧ a.toNat ≤ 0xFDFF)
  ∨ (s.params.prohibitedPolicy = .fault ∧ 0xFEA0 ≤ a.toNat ∧ a.toNat ≤ 0xFEFF)

/-- The CGB registers of R215. -/
abbrev cgbRegister (a : Addr) : Prop :=
  a.toNat = 0xFF4D ∨ a.toNat = 0xFF4F ∨ (0xFF51 ≤ a.toNat ∧ a.toNat ≤ 0xFF55)

/-- A write of v to the address raises a fault (R654, R207, R208, R215, R653). -/
abbrev State.writeFaults (s : State) (a : Addr) (v : Byte) : Prop :=
  s.readFaults a ∨ (s.params.cgbMode = true ∧ cgbRegister a) ∨ (a = 0xFF46 ∧ 0xFE ≤ v.toNat)

/-! ## Frames: what stays as it was, as equality of whole states up to the fields named -/

/-- Nothing but the register file and the cycle count changed. -/
def State.onlyRegs (s t : State) : Prop := t = { s with regs := t.regs, cycles := t.cycles }

/-- Nothing but the register file, the cycle count, and what a bus read may add (an event, a draw) changed. -/
def State.onlyRegsAndReads (s t : State) : Prop :=
  t = { s with regs := t.regs, cycles := t.cycles, history := t.history, draws := t.draws }

/-- Nothing changed but what a bus read may add. -/
def State.onlyReads (s t : State) : Prop := t = { s with history := t.history, draws := t.draws }

/-- Nothing changed but what bus writes may change: the stores other than the image, the memory-mapped registers, the
DMA sequencer, the cartridge's registers, and events and draws. -/
def State.onlyBus (s t : State) : Prop :=
  t = { s with
    wram := t.wram, hram := t.hram, vram := t.vram, oam := t.oam, cartRam := t.cartRam, nram := t.nram,
    ie := t.ie, iflag := t.iflag, dmaReg := t.dmaReg, dma := t.dma, svbk := t.svbk,
    cart := { s.cart with mbc := t.cart.mbc }, history := t.history, draws := t.draws }

/-- Nothing changed but the register file, the cycle count, and what bus writes may change. -/
def State.onlyRegsAndBus (s t : State) : Prop := { s with regs := t.regs, cycles := t.cycles }.onlyBus t

/-- A bus write to `a` may change what address `b` reads: `b` has the same target; `a` is a register of the cartridge,
which maps 0x0000-0x7FFF and 0xA000-0xBFFF (R233); or `a` is SVBK, which maps 0xD000-0xDFFF and its echo (R209). -/
abbrev State.touches (s : State) (a b : Addr) : Prop :=
  s.locate b = s.locate a
  ∨ (a.toNat < 0x8000 ∧ (b.toNat < 0x8000 ∨ (0xA000 ≤ b.toNat ∧ b.toNat < 0xC000)))
  ∨ (s.locate a = .svbk ∧ ((0xD000 ≤ b.toNat ∧ b.toNat < 0xE000) ∨ (0xF000 ≤ b.toNat ∧ b.toNat < 0xFE00)))

/-- Every address that a write to `a` does not touch is decoded as before, holds the same byte, and reads the same. -/
def State.readsAsBefore (s t : State) (a : Addr) : Prop :=
  ∀ b : Addr, ¬s.touches a b → t.locate b = s.locate b ∧ t.heldAt b = s.heldAt b ∧ t.peek b = s.peek b

/-! ## A CPU transaction that completes -/

/-- A CPU read of the address gives `v` and leaves the state `u`. Where the core stores the answer, `v` is that byte and
nothing changes; elsewhere at most an event and a draw are added (R201, R216). -/
def State.reads (s : State) (a : Addr) (v : Byte) (u : State) : Prop :=
  memRead a s = .ok v u ∧ s.onlyReads u ∧ ∀ w, s.peek a = some w → v = w ∧ u = s

/-- A CPU write of `v` to the address leaves the state `t`. Only what a bus write may change changes, every address it
does not touch reads as before, and plain storage then holds `v` (R202, R220). -/
def State.writes (s : State) (a : Addr) (v : Byte) (t : State) : Prop :=
  memWrite a v s = .ok () t ∧ s.onlyBus t ∧ s.readsAsBefore t a ∧ (s.plain a = true → t.peek a = some v)

/-- The `r`-coded operand gives `v` and leaves the state `u`: a register, or the byte at HL (R302, R546). -/
def State.opdReads (s : State) (o : Opd) (v : Byte) (u : State) : Prop :=
  match o with
  | .reg r => v = s.regs.r8 r ∧ u = s
  | .indHl => s.reads s.regs.hl v u

/-- The `r`-coded operand takes `v` and leaves the state `t`: a register, or the byte at HL (R302, R546). -/
def State.opdWrites (s : State) (o : Opd) (v : Byte) (t : State) : Prop :=
  match o with
  | .reg r => t = { s with regs := s.regs.setR8 r v }
  | .indHl => s.writes s.regs.hl v t

/-- Reading the operand raises a fault: only the byte at HL can. -/
abbrev State.opdReadFaults (s : State) (o : Opd) : Prop := o = .indHl ∧ s.readFaults s.regs.hl

/-- Reading the operand and writing `f` of it back raises a fault. The value matters at one address only, the DMA
register, where the byte read is that register's (R653). -/
abbrev State.opdUpdateFaults (s : State) (o : Opd) (f : Byte → Byte) : Prop :=
  o = .indHl ∧ s.writeFaults s.regs.hl (f s.dmaReg)

/-- Writing `v` at `a` and then `w` at `b` raises a fault. A first write that starts a DMA transfer makes the second one
fault unless it goes to high RAM (R651, R654). -/
abbrev State.writePairFaults (s : State) (a : Addr) (v : Byte) (b : Addr) (w : Byte) : Prop :=
  s.writeFaults a v ∨ s.writeFaults b w ∨ (a = 0xFF46 ∧ ¬(0xFF80 ≤ b.toNat ∧ b.toNat ≤ 0xFFFE))

/-- The four flags (R104), and the low nibble zero (R105). -/
def Regs.flagsAre (g : Regs) (z n h c : Bool) : Prop :=
  g.f.getLsbD 7 = z ∧ g.f.getLsbD 6 = n ∧ g.f.getLsbD 5 = h ∧ g.f.getLsbD 4 = c ∧ g.f &&& 0x0F = 0

/-! ## The stack -/

/-- `Push16(v)` raises a fault (R219, R602). -/
abbrev State.pushFaults (s : State) (v : Addr) : Prop :=
  s.writePairFaults (s.regs.sp - 1) (hi8 v) (s.regs.sp - 2) (lo8 v)

/-- `Push16(v)` leaves the state `t`: SP is two lower, the high byte was written at SP - 1 and then the low byte at
SP - 2 (R219); plain storage holds them. -/
def State.pushes (s : State) (v : Addr) (t : State) : Prop :=
  (∃ u, (s.setSp (s.regs.sp - 1)).writes (s.regs.sp - 1) (hi8 v) u
    ∧ (u.setSp (s.regs.sp - 2)).writes (s.regs.sp - 2) (lo8 v) t)
  ∧ t.regs = { s.regs with sp := s.regs.sp - 2 }
  ∧ (s.plain (s.regs.sp - 1) = true → t.peek (s.regs.sp - 1) = some (hi8 v))
  ∧ (s.plain (s.regs.sp - 2) = true → t.peek (s.regs.sp - 2) = some (lo8 v))

/-- `Pop16()` raises a fault (R220, R602). -/
abbrev State.popFaults (s : State) : Prop := s.readFaults s.regs.sp ∨ s.readFaults (s.regs.sp + 1)

/-- `Pop16()` gives `v` and leaves the state `t`: the low byte is read at SP, then the high byte at SP + 1, and SP is
two higher (R220). -/
def State.pops (s : State) (v : Addr) (t : State) : Prop :=
  ∃ lo hi u w, s.reads s.regs.sp lo u ∧ (u.setSp (s.regs.sp + 1)).reads (s.regs.sp + 1) hi w
    ∧ v = hi ++ lo ∧ t = w.setSp (s.regs.sp + 2)

/-! ## Instruction forms -/

/-- `i` is `x[dst] <- MemRead(a, 1)` in k cycles: it completes wherever the read raises no fault, and where the read
raises one that fault is all that happens (R602). -/
def loadsByte (i : Instr) (dst : R8) (a : State → Addr) (k : Nat) : Prop :=
  ∀ s : State,
    (¬s.readFaults (a s) → ∃ v u, s.reads (a s) v u
      ∧ exec i s = .next { u with regs := s.regs.setR8 dst v, cycles := s.cycles + k })
    ∧ (s.readFaults (a s) → ∃ r, memRead (a s) s = .stop (s.raised r) ∧ exec i s = .next (s.raised r))

/-- `i` is `MemWrite(a, 1, v)` in k cycles: it completes wherever the write raises no fault, and where the write raises
one that fault is all that happens (R602). -/
def storesByte (i : Instr) (a : State → Addr) (v : State → Byte) (k : Nat) : Prop :=
  ∀ s : State,
    (¬s.writeFaults (a s) (v s) → ∃ t, s.writes (a s) (v s) t ∧ exec i s = .next { t with cycles := s.cycles + k })
    ∧ (s.writeFaults (a s) (v s) → ∃ t, memWrite (a s) (v s) s = .stop t ∧ exec i s = .next t)

/-- Where the read of an operand at HL raises a fault, `i` ends in that fault with nothing else changed (R602, R546). -/
def readFaultEnds (i : Instr) (o : Opd) (s : State) : Prop :=
  s.opdReadFaults o → ∃ r, memRead s.regs.hl s = .stop (s.raised r) ∧ exec i s = .next (s.raised r)

/-- Where the byte at HL is read and the write back of `f` of it raises a fault, `i` ends in the state that leaves
(R602, R546). -/
def writeFaultEnds (i : Instr) (o : Opd) (f : Byte → Byte) (s : State) : Prop :=
  o = .indHl → ∀ v u t, memRead s.regs.hl s = .ok v u → memWrite s.regs.hl (f v) u = .stop t → exec i s = .next t

/-- Where `Push16(v)` raises a fault, `i` ends in the state that leaves, SP's moves included (R219, R600, R602). -/
def pushFaultEnds (i : Instr) (v : Addr) (s : State) : Prop := ∀ t, push16 v s = .stop t → exec i s = .next t

/-- Where `Pop16()` raises a fault, `i` ends in the state that leaves, SP's move included (R220, R600, R602). -/
def popFaultEnds (i : Instr) (s : State) : Prop := ∀ t, pop16 s = .stop t → exec i s = .next t

/-- From `u`, an addition of `v` and `cin` to A in k cycles leaves `t`: A and the four flags change (R451). -/
def State.added (u t : State) (v : Byte) (cin k : Nat) : Prop :=
  t = { u with regs := { u.regs with a := t.regs.a, f := t.regs.f }, cycles := u.cycles + k }
  ∧ t.regs.a.toNat = (u.regs.a.toNat + v.toNat + cin) % 256
  ∧ t.regs.flagsAre (decide (t.regs.a = 0)) false (decide (0xF < u.regs.a.toNat % 16 + v.toNat % 16 + cin))
      (decide (0xFF < u.regs.a.toNat + v.toNat + cin))

/-- From `u`, the difference `d` of A, `v` and `cin`, and the flags that `t` has after it (R452). -/
def State.subtracts (u t : State) (v d : Byte) (cin : Nat) : Prop :=
  d.toNat = (u.regs.a.toNat + 512 - v.toNat - cin) % 256
  ∧ t.regs.flagsAre (decide (d = 0)) true (decide (u.regs.a.toNat % 16 < v.toNat % 16 + cin))
      (decide (u.regs.a.toNat < v.toNat + cin))

/-- The result of a prefixed rotate or shift of v with F.C = c, as the rules write it (R524 to R538). -/
def shiftResult (op : ShiftOp) (v : Byte) (c : Bool) : Byte :=
  match op with
  | .rlc => v <<< 1 ||| v >>> 7
  | .rrc => v >>> 1 ||| v <<< 7
  | .rl => v <<< 1 ||| (if c then 0x01 else 0)
  | .rr => v >>> 1 ||| (if c then 0x80 else 0)
  | .sla => v <<< 1
  | .sra => v >>> 1 ||| (v &&& 0x80)
  | .swap => v <<< 4 ||| v >>> 4
  | .srl => v >>> 1

/-- The carry of a prefixed rotate or shift of v (R524 to R538). -/
def shiftCarry (op : ShiftOp) (v : Byte) : Bool :=
  match op with
  | .rlc => v.getLsbD 7
  | .rrc => v.getLsbD 0
  | .rl => v.getLsbD 7
  | .rr => v.getLsbD 0
  | .sla => v.getLsbD 7
  | .sra => v.getLsbD 0
  | .swap => false
  | .srl => v.getLsbD 0

/-! ## The step -/

/-- The end of a step whose instruction or dispatch left `u` (R655, R720, R721): a fault ends it; else IME is promoted,
and the DMA sequencer takes a tick per machine cycle, none where the step itself started the transfer. -/
def endStep (before u : State) : Outcome :=
  if u.mode = .faulted then .next u
  else
    (dmaTicks (if before.dma.active then u.cycles - before.cycles else 0)
      (if before.eiPending ∧ u.eiPending then { u with ime := true, eiPending := false } else u)).outcome

/-- What a step answers that runs the instruction `i` from the state `f` in which it is fetched. -/
def runThen (before f : State) (i : Instr) : Outcome :=
  match exec i f with
  | .next u => endStep before u
  | .fault r => .fault r
  | .refused r => .refused r

/-! ## An instruction's bytes in memory -/

/-- The CPU can read the bytes at consecutive addresses from `a`. -/
def State.holdsAt (s : State) (a : Addr) : List Byte → Prop
  | [] => True
  | v :: vs => ¬s.conflicts a ∧ s.peek a = some v ∧ s.holdsAt (a + 1) vs

/-! ## Invariants -/

/-- F's low nibble is zero (R104, R105). -/
abbrev State.fClean (s : State) : Prop := s.regs.f &&& 0x0F = 0

/-- Every store is in the canonical form. -/
abbrev State.storesWf (s : State) : Prop :=
  Memory.wf s.wram ∧ Memory.wf s.hram ∧ Memory.wf s.vram ∧ Memory.wf s.oam ∧ Memory.wf s.rom
  ∧ Memory.wf s.cartRam ∧ Memory.wf s.nram

/-- Every listed offset is below a bound. -/
abbrev Memory.below (m : Memory) (n : Nat) : Prop := ∀ c ∈ m, c.1 < n

/-- Every store lists only offsets it has (R120), and MBC2's entries are nibbles (R245). -/
abbrev State.storesInRange (s : State) : Prop :=
  Memory.below s.wram (if s.params.cgbMode then 0x8000 else 0x2000) ∧ Memory.below s.hram 127
  ∧ Memory.below s.vram 0x2000 ∧ Memory.below s.oam 160 ∧ Memory.below s.rom (s.cart.romBanks * 0x4000)
  ∧ Memory.below s.cartRam (s.cart.ramBanks * 0x2000) ∧ Memory.below s.nram 512 ∧ ∀ c ∈ s.nram, c.2.toNat < 16

/-- The DMA sequencer's fields stay in their ranges (R118): a transfer in progress has a byte left to copy, and an
inactive sequencer has no delay left. -/
abbrev State.dmaWf (s : State) : Prop :=
  s.dma.count ≤ 160 ∧ s.dma.delay ≤ s.params.dmaStartDelay
  ∧ (s.dma.active = true → s.dma.count < 160) ∧ (s.dma.active = false → s.dma.delay = 0)

/-- The mode is faulted exactly when the fault record is set (R600). -/
abbrev State.faultWf (s : State) : Prop := s.mode = .faulted ↔ s.fault.isSome = true

end Sys2Proof.Machine
end

