-- ==== Sys2Proof/Certificates/Slice0/Obligations.lean ====
section
/-! DEFINITION. The statements for the provers, each a proposition about the model that formalises rules of the spec.
The parameters of a run (R7) stand in the state, so a statement for every state holds for every choice of them. -/

open Sys2Proof Sys2Proof.Machine

/-! ## Encoding -/

/-- Decoding an encoded well-formed instruction gives it back, with whatever follows it. -/
def Obligations.DecodeOfEncode : Prop :=
  ∀ (i : Instr) (rest : List Byte), i.wf = true → decode (encode i ++ rest) = .ok i rest

/-- Every byte sequence has at most one reading: what decodes is the encoding of what it decodes to (R309, R310). -/
def Obligations.EncodeOfDecode : Prop :=
  ∀ (bytes rest : List Byte) (i : Instr), decode bytes = .ok i rest → i.wf = true ∧ bytes = encode i ++ rest

/-- R301, R304, R306, R307, R311: decoding is total, the first byte alone decides the length, 2 for the prefix, and the
regular parts of the two opcode tables are what the fields x, y, z of the byte say. -/
def Obligations.TablesByFields : Prop :=
  (∀ (op b1 b2 : Byte) (rest : List Byte),
     (1 ≤ opLength op ∧ opLength op ≤ 3) ∧ opLength 0xCB = 2
     ∧ ∃ i : Instr, decode (op :: b1 :: b2 :: rest) = .ok i ((op :: b1 :: b2 :: rest).drop (opLength op))
         ∧ (encode i).length = opLength op)
  ∧ ((∀ (op b1 b2 : Byte), let y := field3 op 3; let z := field3 op 0
       (op.toNat / 64 = 1 → decodeOp op b1 b2 =
         match Opd.ofCode y, Opd.ofCode z with
         | .reg dst, .reg src => .ldRR dst src
         | .reg dst, .indHl => .ldRIndHl dst
         | .indHl, .reg src => .ldIndHlR src
         | .indHl, .indHl => .halt)
       ∧ (op.toNat / 64 = 2 → decodeOp op b1 b2 = .aluO (AluOp.ofCode y) (Opd.ofCode z))
       ∧ (op.toNat / 64 = 0 ∧ z.val = 4 → decodeOp op b1 b2 = .incO (Opd.ofCode y))
       ∧ (op.toNat / 64 = 0 ∧ z.val = 5 → decodeOp op b1 b2 = .decO (Opd.ofCode y))
       ∧ (op.toNat / 64 = 0 ∧ z.val = 6 → decodeOp op b1 b2 =
         match Opd.ofCode y with
         | .reg dst => .ldRN dst b1
         | .indHl => .ldIndHlN8 b1)
       ∧ (op.toNat / 64 = 3 ∧ z.val = 6 → decodeOp op b1 b2 = .aluN (AluOp.ofCode y) b1)
       ∧ (op.toNat / 64 = 3 ∧ z.val = 7 → decodeOp op b1 b2 = .rst y))
     ∧ (∀ (op2 b2 : Byte), let y := field3 op2 3; let z := field3 op2 0
       decodeOp 0xCB op2 b2 =
         match op2.toNat / 64 with
         | 0 => .shiftO (ShiftOp.ofCode y) (Opd.ofCode z)
         | 1 => .bitO y (Opd.ofCode z)
         | 2 => .resO y (Opd.ofCode z)
         | _ => .setO y (Opd.ofCode z)))

/-- Words written out bit by bit from the rules' Encoding, one of each family (R401, R409, R431, R433, R435, R461, R486,
R489, R502, R521, R538, R541, R564, R566, R569, R594, R308). -/
def Obligations.SampleWords : Prop :=
  decode [0b00001110, 0x5A] = .ok (.ldCN8 0x5A) []
  ∧ decode [0b11111010, 0x00, 0xC1] = .ok (.ldAIndN16 0xC100) []
  ∧ decode [0b00001000, 0x34, 0x12] = .ok (.ldIndN16Sp 0x1234) []
  ∧ decode [0b11010101] = .ok .pushDe []
  ∧ decode [0b11111000, 0xFE] = .ok (.ldHlSpE8 0xFE) []
  ∧ decode [0b10000110] = .ok .addAIndHl []
  ∧ decode [0b00101101] = .ok .decL []
  ∧ decode [0b00101111] = .ok .cpl []
  ∧ decode [0b00111001] = .ok .addHlSp []
  ∧ decode [0b00001111] = .ok .rrca []
  ∧ decode [0b11001011, 0b00110111] = .ok .swapA []
  ∧ decode [0b11001011, 0b01110110] = .ok .bit6IndHl []
  ∧ decode [0b00100000, 0xFB] = .ok (.jrNzE8 0xFB) []
  ∧ decode [0b11011100, 0x00, 0x20] = .ok (.callCN16 0x2000) []
  ∧ decode [0b11111111] = .ok .rst38 []
  ∧ decode [0b11111011] = .ok .ei []
  ∧ decode [0b11011101] = .ok .illegalDD []

/-! ## The register file -/

/-- R100, R101: AF, BC, DE and HL are their two halves; a write of a half leaves the other half alone, and a write of a
pair or of a half leaves every other register alone. -/
def Obligations.RegisterHalves : Prop :=
  (∀ g : Regs, g.af.toNat = g.a.toNat * 256 + g.f.toNat ∧ g.bc.toNat = g.b.toNat * 256 + g.c.toNat
    ∧ g.de.toNat = g.d.toNat * 256 + g.e.toNat ∧ g.hl.toNat = g.h.toNat * 256 + g.l.toNat)
  ∧ (∀ (g : Regs) (r r' : R8) (v : Byte),
      (g.setR8 r v).r8 r' = (if r' = r then v else g.r8 r')
      ∧ (g.setR8 r v).f = g.f ∧ (g.setR8 r v).sp = g.sp ∧ (g.setR8 r v).pc = g.pc)
  ∧ (∀ (g : Regs) (p p' : Pair) (v : Addr),
      (g.setPair p v).pair p' = (if p' = p then v else g.pair p')
      ∧ (g.setPair p v).a = g.a ∧ (g.setPair p v).f = g.f ∧ (g.setPair p v).pc = g.pc)
  ∧ (∀ (g : Regs) (p p' : StackPair) (v : Addr),
      (g.setStackPair p v).stackPair p' = (if p' = p then v else g.stackPair p')
      ∧ (g.setStackPair p v).a = g.a ∧ (g.setStackPair p v).f = g.f ∧ (g.setStackPair p v).sp = g.sp
      ∧ (g.setStackPair p v).pc = g.pc)

/-! ## Reset -/

/-- R701, R702, R703, R704, R707, R708, R709, R122: the reset state for every choice of the parameters and of the
variant, the bank that the switchable window then reads, and the defaults. -/
def Obligations.ResetValues : Prop :=
  ((∀ (p : Params) (boot : BootRegs) (ifReset : Byte) (mem : InitialMemory) (cart : Cart) (image : Memory),
     let s := State.resetWith p boot ifReset mem cart image
     s.regs = { a := boot.a, f := boot.f &&& 0xF0, b := boot.b, c := boot.c, d := boot.d, e := boot.e, h := boot.h,
                l := boot.l, sp := 0xFFFE, pc := 0x0100 }
     ∧ s.ime = false ∧ s.eiPending = false ∧ s.haltBug = false ∧ s.mode = .running ∧ s.cycles = 0
     ∧ s.fault = none ∧ s.history = []
     ∧ s.ie = 0x00 ∧ busRead 0xFF0F s = .ok (0xE0 ||| ifReset) s
     ∧ s.dmaReg = 0xFF ∧ s.dma = { active := false, delay := 0, count := 0 } ∧ s.svbk = 0)
   ∧ State.reset.regs = { a := 0x01, f := 0xB0, b := 0x00, c := 0x13, d := 0x00, e := 0xD8, h := 0x01, l := 0x4D,
                          sp := 0xFFFE, pc := 0x0100 }
   ∧ State.reset.iflag = 0x01
   ∧ BootRegs.default true = { a := 0x11, f := 0x80, b := 0x00, c := 0x00, d := 0xFF, e := 0x56, h := 0x00, l := 0x0D })
  ∧ (∀ rtc : RtcInitial,
       Mbc.atReset .noMbc rtc = .noMbc
       ∧ Mbc.atReset .mbc1 rtc = .mbc1 { ramEnable := false, bank1 := 0, bank2 := 0, mode := false }
       ∧ Mbc.atReset .mbc2 rtc = .mbc2 { ramEnable := false, romBank := 0 }
       ∧ Mbc.atReset .mbc3 rtc = .mbc3 { ramTimerEnable := false, romBank := 0, select := 0, latchArmed := false,
                                         live := rtc.live, latched := rtc.latched }
       ∧ Mbc.atReset .mbc5 rtc = .mbc5 { ramEnable := false, romBankLo := 1, romBankHi := 0, ramBank := 0, rumble := false }
       ∧ ∀ (v : Variant) (a : Addr) (s : State), s.cart.mbc = Mbc.atReset v rtc → 2 ≤ s.cart.romBanks →
           0x4000 ≤ a.toNat → a.toNat < 0x8000 → busRead a s = .ok (s.rom.read a.toNat) s)

/-- The reset state meets the invariants that every step keeps, for every choice of the parameters whose stores meet
them. -/
def Obligations.ResetMeetsInvariants : Prop :=
  (State.reset.fClean ∧ State.reset.storesWf ∧ State.reset.storesInRange ∧ State.reset.dmaWf ∧ State.reset.faultWf)
  ∧ ∀ (p : Params) (boot : BootRegs) (ifReset : Byte) (mem : InitialMemory) (cart : Cart) (image : Memory),
      let s := State.resetWith p boot ifReset mem cart image
      s.fClean ∧ s.dmaWf ∧ s.faultWf
      ∧ (mem.wram.wf ∧ mem.hram.wf ∧ mem.vram.wf ∧ mem.oam.wf ∧ image.wf ∧ mem.cartRam.wf ∧ mem.nram.wf → s.storesWf)

/-! ## Loading a cartridge -/

/-- R230, R231, R710: construction checks the header in this order and reports the exact value; with no error the core
is at its reset state, with the image as its ROM. -/
def Obligations.Construction : Prop :=
  ∀ (p : Params) (boot : BootRegs) (ifReset : Byte) (mem : InitialMemory) (rtc : RtcInitial) (image : List Byte),
    let ty := image.getD 0x0147 0
    let romCode := image.getD 0x0148 0
    let ramCode := image.getD 0x0149 0
    let loaded := load p boot ifReset mem rtc image
    (image.length < 0x0150 → loaded = .error .headerTruncated)
    ∧ (0x0150 ≤ image.length → cartTypeOf ty = none → loaded = .error (.unsupportedCartridgeType ty))
    ∧ ∀ t : CartType, 0x0150 ≤ image.length → cartTypeOf ty = some t →
        ((maxRomCode t.variant < romCode.toNat ∨ romBanksOf romCode = none) →
          loaded = .error (.unsupportedRomSize romCode))
        ∧ ∀ roms : Nat, romCode.toNat ≤ maxRomCode t.variant → romBanksOf romCode = some roms →
            (t.ram = true ∧ (maxRamCode t.variant < ramCode.toNat ∨ ramBanksOf ramCode = none) →
              loaded = .error (.unsupportedRamSize ramCode))
            ∧ ∀ rams : Nat,
                (if t.ram = true then ramCode.toNat ≤ maxRamCode t.variant ∧ ramBanksOf ramCode = some rams
                  else rams = 0) →
                (image.length ≠ roms * 0x4000 → loaded = .error (.imageSizeMismatch image.length))
                ∧ (image.length = roms * 0x4000 →
                    loaded = .ok (.resetWith p boot ifReset mem
                      { typeCode := ty, battery := t.battery, timer := t.timer, rumble := t.rumble, romBanks := roms,
                        ramBanks := rams, mbc := .atReset t.variant rtc } (Memory.ofBytes image 0))
                    ∧ ∀ (k : Nat) (h : k < image.length), (Memory.ofBytes image 0).read k = image[k])

/-! ## The bus -/

/-- R602, R654, R210: while the DMA sequencer is active a CPU transaction outside 0xFF80-0xFFFE raises
`DmaBusConflict` before it reaches the bus; every other CPU transaction is the bus's. -/
def Obligations.DmaBusConflict : Prop :=
  ∀ (s : State) (a : Addr) (v : Byte),
    (s.dma.active = true → ¬(0xFF80 ≤ a.toNat ∧ a.toNat ≤ 0xFFFE) →
      memRead a s = .stop (s.raised (.dmaBusConflict a .read))
      ∧ memWrite a v s = .stop (s.raised (.dmaBusConflict a .write))
      ∧ (s.regs.pc = a → fetchOpcode s = .stop (s.raised (.dmaBusConflict a .read))
          ∧ fetch8 s = .stop (s.raised (.dmaBusConflict a .read)))
      ∧ (s.regs.sp = a → popByte s = .stop (s.raised (.dmaBusConflict a .read)))
      ∧ (s.regs.sp - 1 = a → pushByte v s = .stop ((s.setSp a).raised (.dmaBusConflict a .write))))
    ∧ (s.dma.active = false ∨ (0xFF80 ≤ a.toNat ∧ a.toNat ≤ 0xFFFE) →
      memRead a s = busRead a s ∧ memWrite a v s = busWrite a v s)

/-- A CPU transaction completes exactly where none of the conditions of R601 and R602 holds; where one does, the state
it found is the faulted state's, but for the DMA register (R653). `Push16` and `Pop16` fault exactly where one of their
two transactions does (R219, R220). -/
def Obligations.TransactionCompletes : Prop :=
  ∀ (s : State) (a : Addr) (v : Byte),
    (¬s.readFaults a → ∃ w u, s.reads a w u)
    ∧ (s.readFaults a → ∃ k, memRead a s = .stop (s.raised k))
    ∧ (¬s.writeFaults a v → ∃ t, s.writes a v t)
    ∧ (s.writeFaults a v → ∃ k, memWrite a v s = .stop (s.raised k)
        ∨ (a = 0xFF46 ∧ memWrite a v s = .stop (State.raised { s with dmaReg := v } k)))
    ∧ ∀ x : Addr, ((∃ t, push16 x s = .stop t) ↔ s.pushFaults x) ∧ ((∃ t, pop16 s = .stop t) ↔ s.popFaults)
      ∧ (∀ t, push16 x s = .stop t → t.mode = .faulted ∧ t.fault.isSome = true)
      ∧ (∀ t, pop16 s = .stop t → t.mode = .faulted ∧ t.fault.isSome = true)

/-- R206, R209, R210: video RAM, work RAM with its banks, object-attribute memory and high RAM. -/
def Obligations.PlainStores : Prop :=
  ∀ (s : State) (a : Addr) (v : Byte), let n := a.toNat
    let wbank := if s.params.cgbMode = true ∧ s.svbk ≠ 0 then s.svbk.toNat else 1
    (0x8000 ≤ n → n ≤ 0x9FFF → s.params.videoBusBlocking = false →
      busRead a s = .ok (s.vram.read (n - 0x8000)) s
      ∧ busWrite a v s = .ok () { s with vram := s.vram.write (n - 0x8000) v })
    ∧ (0xFE00 ≤ n → n ≤ 0xFE9F → s.params.videoBusBlocking = false →
      busRead a s = .ok (s.oam.read (n - 0xFE00)) s
      ∧ busWrite a v s = .ok () { s with oam := s.oam.write (n - 0xFE00) v })
    ∧ (0x8000 ≤ n → n ≤ 0x9FFF → s.params.videoBusBlocking = true →
      busRead a s = draw .video s
      ∧ (busWrite a v s = .ok () { s with vram := s.vram.write (n - 0x8000) v, draws := s.draws + 1 }
        ∨ busWrite a v s = .ok () { s with draws := s.draws + 1 }))
    ∧ (0xFE00 ≤ n → n ≤ 0xFE9F → s.params.videoBusBlocking = true →
      busRead a s = draw .video s
      ∧ (busWrite a v s = .ok () { s with oam := s.oam.write (n - 0xFE00) v, draws := s.draws + 1 }
        ∨ busWrite a v s = .ok () { s with draws := s.draws + 1 }))
    ∧ (0xC000 ≤ n → n ≤ 0xCFFF →
      busRead a s = .ok (s.wram.read (n - 0xC000)) s
      ∧ busWrite a v s = .ok () { s with wram := s.wram.write (n - 0xC000) v })
    ∧ (0xD000 ≤ n → n ≤ 0xDFFF →
      busRead a s = .ok (s.wram.read (wbank * 0x1000 + (n - 0xD000))) s
      ∧ busWrite a v s = .ok () { s with wram := s.wram.write (wbank * 0x1000 + (n - 0xD000)) v })
    ∧ (0xFF80 ≤ n → n ≤ 0xFFFE →
      memRead a s = .ok (s.hram.read (n - 0xFF80)) s
      ∧ memWrite a v s = .ok () { s with hram := s.hram.write (n - 0xFF80) v })

/-- R207, R208: the echo range mirrors 0xC000-0xDDFF or faults, and the prohibited range follows its policy. -/
def Obligations.EchoAndProhibited : Prop :=
  ∀ (s : State) (a : Addr) (v : Byte),
    (0xE000 ≤ a.toNat → a.toNat ≤ 0xFDFF →
      (s.params.echoPolicy = .mirror →
        busRead a s = busRead (a - 0x2000) s ∧ busWrite a v s = busWrite (a - 0x2000) v s)
      ∧ (s.params.echoPolicy = .fault →
        busRead a s = .stop (s.raised (.echoAccess a)) ∧ busWrite a v s = .stop (s.raised (.echoAccess a))))
    ∧ (0xFEA0 ≤ a.toNat → a.toNat ≤ 0xFEFF →
      let seen := { s with history := s.history ++ [.invalidAccess .prohibitedRange a] }
      (s.params.prohibitedPolicy = .anyValue →
        busRead a s = draw .prohibited seen ∧ busWrite a v s = .ok () seen)
      ∧ (s.params.prohibitedPolicy = .openBus →
        busRead a s = .ok s.params.openBusValue seen ∧ busWrite a v s = .ok () seen)
      ∧ (s.params.prohibitedPolicy = .fault →
        busRead a s = .stop (s.raised (.prohibitedAccess a)) ∧ busWrite a v s = .stop (s.raised (.prohibitedAccess a))))

/-- R211, R212, R213, R214, R215, R651, R653: IE, IF, the DMA register and SVBK, read and written; every other address of
0xFF00-0xFF7F belongs to a device outside the core. -/
def Obligations.IoRegisters : Prop :=
  (∀ (s : State) (v : Byte),
     busRead 0xFFFF s = .ok s.ie s ∧ busWrite 0xFFFF v s = .ok () { s with ie := v }
     ∧ busRead 0xFF0F s = .ok (0xE0 ||| s.iflag.zeroExtend 8) s
     ∧ busWrite 0xFF0F v s = .ok () { s with iflag := v.truncate 5 }
     ∧ busRead 0xFF46 s = .ok s.dmaReg s
     ∧ (v.toNat < 0xFE → busWrite 0xFF46 v s =
         .ok () { s with dmaReg := v, dma := { active := true, delay := s.params.dmaStartDelay, count := 0 } })
     ∧ (0xFE ≤ v.toNat → busWrite 0xFF46 v s = .stop (State.raised { s with dmaReg := v } (.unmodelledDma 0xFF46 v)))
     ∧ (s.params.cgbMode = true → busRead 0xFF70 s = .ok (0xF8 ||| s.svbk.zeroExtend 8) s
         ∧ busWrite 0xFF70 v s = .ok () { s with svbk := v.truncate 3 }))
  ∧ (∀ (s : State) (a : Addr) (v : Byte), 0xFF00 ≤ a.toNat → a.toNat ≤ 0xFF7F → a ≠ 0xFF0F → a ≠ 0xFF46 →
       ¬(a = 0xFF70 ∧ s.params.cgbMode = true) →
       busRead a s = draw (.io a) s
       ∧ (¬(s.params.cgbMode = true ∧ cgbRegister a) →
           busWrite a v s = .ok () { s with history := s.history ++ [.ioWrite a v] })
       ∧ (s.params.cgbMode = true → cgbRegister a → busWrite a v s = .stop (s.raised (.unmodelledWrite a))))

/-- A completed bus write leaves every address it does not touch decoded as before, holding the same byte and reading
the same (R202, R223, R233, R277), and changes nothing that a bus write has no part in. -/
def Obligations.BusWriteFrame : Prop :=
  ∀ (s t : State) (a : Addr) (v : Byte), busWrite a v s = .ok () t → s.readsAsBefore t a ∧ s.onlyBus t

/-- R220: `Push16(v)` followed by `Pop16()` returns v and restores SP where the two stack bytes are plain RAM; and the
two bytes lie high byte above low byte (R219). -/
def Obligations.PushThenPop : Prop :=
  ∀ (s : State) (v : Addr), ¬s.conflicts (s.regs.sp - 1) → ¬s.conflicts (s.regs.sp - 2) →
    s.plain (s.regs.sp - 1) = true → s.plain (s.regs.sp - 2) = true →
    ∃ t, push16 v s = .ok () t ∧ t.regs = { s.regs with sp := s.regs.sp - 2 }
      ∧ t.peek (s.regs.sp - 1) = some (v.extractLsb' 8 8) ∧ t.peek (s.regs.sp - 2) = some (v.extractLsb' 0 8)
      ∧ pop16 t = .ok v { t with regs := s.regs }

/-! ## The cartridge -/

/-- R204, R234: NoMBC. -/
def Obligations.NoMbcMapping : Prop :=
  ∀ (s : State) (a : Addr) (v : Byte), s.cart.mbc = .noMbc →
    (a.toNat < 0x8000 → busRead a s = .ok (s.rom.read a.toNat) s ∧ busWrite a v s = .ok () s)
    ∧ (0xA000 ≤ a.toNat → a.toNat ≤ 0xBFFF → 1 ≤ s.cart.ramBanks →
        busRead a s = .ok (s.cartRam.read (a.toNat - 0xA000)) s
        ∧ busWrite a v s = .ok () { s with cartRam := s.cartRam.write (a.toNat - 0xA000) v })
    ∧ (0xA000 ≤ a.toNat → a.toNat ≤ 0xBFFF → s.cart.ramBanks = 0 →
        let seen := { s with history := s.history ++ [.invalidAccess .ramAbsent a] }
        busRead a s = .ok s.params.openBusValue seen ∧ busWrite a v s = .ok () seen)

/-- R241, R242, R243: MBC1. That the reduction of R225 gives bank 0 for an even nonzero bank1 on a two-bank cartridge,
where R244 says bank 1, is the model's reading, log entry 18 (DEDUCED). -/
def Obligations.Mbc1Mapping : Prop :=
  ∀ (s : State) (r : Mbc1) (a : Addr) (v : Byte), s.cart.mbc = .mbc1 r → let n := a.toNat
    let b1 := if r.bank1 = 0 then 1 else r.bank1.toNat
    let ramBank := if r.mode = true then r.bank2.toNat else 0
    (n ≤ 0x1FFF → busWrite a v s =
      .ok () { s with cart := { s.cart with mbc := .mbc1 { r with ramEnable := decide (v.toNat % 16 = 0xA) } } })
    ∧ (0x2000 ≤ n → n ≤ 0x3FFF → busWrite a v s =
      .ok () { s with cart := { s.cart with mbc := .mbc1 { r with bank1 := v.truncate 5 } } })
    ∧ (0x4000 ≤ n → n ≤ 0x5FFF → busWrite a v s =
      .ok () { s with cart := { s.cart with mbc := .mbc1 { r with bank2 := v.truncate 2 } } })
    ∧ (0x6000 ≤ n → n ≤ 0x7FFF → busWrite a v s =
      .ok () { s with cart := { s.cart with mbc := .mbc1 { r with mode := v.getLsbD 0 } } })
    ∧ (n ≤ 0x3FFF → busRead a s =
      .ok (s.rom.read (((if r.mode = true then r.bank2.toNat * 32 else 0) % s.cart.romBanks) * 0x4000 + n)) s)
    ∧ (0x4000 ≤ n → n ≤ 0x7FFF → busRead a s =
      .ok (s.rom.read (((r.bank2.toNat * 32 + b1) % s.cart.romBanks) * 0x4000 + (n - 0x4000))) s)
    ∧ (0xA000 ≤ n → n ≤ 0xBFFF →
      (r.ramEnable = false →
        let seen := { s with history := s.history ++ [.invalidAccess .ramDisabled a] }
        busRead a s = .ok s.params.openBusValue seen ∧ busWrite a v s = .ok () seen)
      ∧ (r.ramEnable = true → s.cart.ramBanks = 0 →
        let seen := { s with history := s.history ++ [.invalidAccess .ramAbsent a] }
        busRead a s = .ok s.params.openBusValue seen ∧ busWrite a v s = .ok () seen)
      ∧ (r.ramEnable = true → s.cart.ramBanks ≠ 0 →
        let off := (ramBank % s.cart.ramBanks) * 0x2000 + (n - 0xA000)
        busRead a s = .ok (s.cartRam.read off) s
        ∧ busWrite a v s = .ok () { s with cartRam := s.cartRam.write off v }))

/-- R246, R247, R248: MBC2. -/
def Obligations.Mbc2Mapping : Prop :=
  ∀ (s : State) (r : Mbc2) (a : Addr) (v : Byte), s.cart.mbc = .mbc2 r → let n := a.toNat
    (n ≤ 0x3FFF → a.getLsbD 8 = false → busWrite a v s =
      .ok () { s with cart := { s.cart with mbc := .mbc2 { r with ramEnable := decide (v.toNat % 16 = 0xA) } } })
    ∧ (n ≤ 0x3FFF → a.getLsbD 8 = true → busWrite a v s =
      .ok () { s with cart := { s.cart with mbc := .mbc2 { r with romBank := v.truncate 4 } } })
    ∧ (0x4000 ≤ n → n ≤ 0x7FFF → busWrite a v s = .ok () s)
    ∧ (n ≤ 0x3FFF → busRead a s = .ok (s.rom.read n) s)
    ∧ (0x4000 ≤ n → n ≤ 0x7FFF → busRead a s =
      .ok (s.rom.read (((if r.romBank = 0 then 1 else r.romBank.toNat) % s.cart.romBanks) * 0x4000 + (n - 0x4000))) s)
    ∧ (0xA000 ≤ n → n ≤ 0xBFFF →
      (r.ramEnable = false →
        let seen := { s with history := s.history ++ [.invalidAccess .ramDisabled a] }
        busRead a s = .ok s.params.openBusValue seen ∧ busWrite a v s = .ok () seen)
      ∧ (r.ramEnable = true →
        busWrite a v s = .ok () { s with nram := s.nram.write (n % 512) (v &&& 0x0F) }
        ∧ ∃ b : Byte, busRead a s = .ok b { s with draws := s.draws + 1 }
            ∧ b &&& 0x0F = s.nram.read (n % 512) &&& 0x0F))

/-- R251, R252, R253, R254, R256, R257: MBC3 and its latched clock. -/
def Obligations.Mbc3Mapping : Prop :=
  ∀ (s : State) (r : Mbc3) (a : Addr) (v : Byte), s.cart.mbc = .mbc3 r → let n := a.toNat
    (n ≤ 0x1FFF → busWrite a v s =
      .ok () { s with cart := { s.cart with mbc := .mbc3 { r with ramTimerEnable := decide (v.toNat % 16 = 0xA) } } })
    ∧ (0x2000 ≤ n → n ≤ 0x3FFF → busWrite a v s =
      .ok () { s with cart := { s.cart with mbc := .mbc3 { r with romBank := v.truncate 7 } } })
    ∧ (0x4000 ≤ n → n ≤ 0x5FFF → busWrite a v s =
      .ok () { s with cart := { s.cart with mbc := .mbc3 { r with select := v } } })
    ∧ (0x6000 ≤ n → n ≤ 0x7FFF → busWrite a v s =
      .ok () (if s.cart.timer = true then
        { s with cart := { s.cart with mbc := .mbc3 { r with
          latched := if r.latchArmed = true ∧ v = 0x01 then r.live else r.latched, latchArmed := decide (v = 0x00) } } }
        else s))
    ∧ (n ≤ 0x3FFF → busRead a s = .ok (s.rom.read n) s)
    ∧ (0x4000 ≤ n → n ≤ 0x7FFF → busRead a s =
      .ok (s.rom.read (((if r.romBank = 0 then 1 else r.romBank.toNat) % s.cart.romBanks) * 0x4000 + (n - 0x4000))) s)
    ∧ (0xA000 ≤ n → n ≤ 0xBFFF →
      (r.ramTimerEnable = false →
        let kind := if r.select.toNat ≤ 0x07 then InvalidKind.ramDisabled else .rtcDisabled
        let seen := { s with history := s.history ++ [.invalidAccess kind a] }
        busRead a s = .ok s.params.openBusValue seen ∧ busWrite a v s = .ok () seen)
      ∧ (r.ramTimerEnable = true → r.select.toNat ≤ 0x07 → s.cart.ramBanks = 0 →
        let seen := { s with history := s.history ++ [.invalidAccess .ramAbsent a] }
        busRead a s = .ok s.params.openBusValue seen ∧ busWrite a v s = .ok () seen)
      ∧ (r.ramTimerEnable = true → r.select.toNat ≤ 0x07 → s.cart.ramBanks ≠ 0 →
        let off := (r.select.toNat % s.cart.ramBanks) * 0x2000 + (n - 0xA000)
        busRead a s = .ok (s.cartRam.read off) s
        ∧ busWrite a v s = .ok () { s with cartRam := s.cartRam.write off v })
      ∧ (r.ramTimerEnable = true → s.cart.timer = true → ∀ reg : RtcReg, rtcRegOf r.select = some reg →
        busRead a s = .ok (r.latched.get reg) s
        ∧ busWrite a v s = .ok () { s with cart := { s.cart with mbc := .mbc3 { r with live := r.live.set reg v } } })
      ∧ (r.ramTimerEnable = true → 0x07 < r.select.toNat → s.cart.timer = false ∨ rtcRegOf r.select = none →
        let seen := { s with history := s.history ++ [.invalidAccess .rtcSelectInvalid a] }
        busRead a s = draw .mbc3sel seen ∧ busWrite a v s = .ok () seen))

/-- R255, R256, R641: the stored bits of the five clock registers, what a read gives and what a write stores; one tick of
the live clock, on the registers as software reads them, which leaves the latched copy and a cartridge without a timer
as they are. -/
def Obligations.RtcRegistersAndTick : Prop :=
  (rtcRegOf 0x08 = some .s ∧ rtcRegOf 0x09 = some .m ∧ rtcRegOf 0x0A = some .h ∧ rtcRegOf 0x0B = some .dl
   ∧ rtcRegOf 0x0C = some .dh
   ∧ (∀ v : Byte, ¬(0x08 ≤ v.toNat ∧ v.toNat ≤ 0x0C) → rtcRegOf v = none)
   ∧ (∀ (t : Rtc) (r r' : RtcReg) (v : Byte), r' ≠ r → (t.set r v).get r' = t.get r')
   ∧ ∀ (t : Rtc) (v : Byte),
       (t.set .s v).get .s = v &&& 0x3F ∧ (t.set .m v).get .m = v &&& 0x3F ∧ (t.set .h v).get .h = v &&& 0x1F
       ∧ (t.set .dl v).get .dl = v ∧ (t.set .dh v).get .dh = v &&& 0xC1)
  ∧ ((∀ t : Rtc, let u := t.tick
       let day := (if t.dayHi then 256 else 0) + t.dayLo.toNat
       (t.halt = true → u = t)
       ∧ (t.halt = false → t.sec ≠ 59 → u = { t with sec := BitVec.ofNat 6 (t.sec.toNat + 1) })
       ∧ (t.halt = false → t.sec = 59 → t.min ≠ 59 → u = { t with sec := 0, min := BitVec.ofNat 6 (t.min.toNat + 1) })
       ∧ (t.halt = false → t.sec = 59 → t.min = 59 → t.hour ≠ 23 →
           u = { t with sec := 0, min := 0, hour := BitVec.ofNat 5 (t.hour.toNat + 1) })
       ∧ (t.halt = false → t.sec = 59 → t.min = 59 → t.hour = 23 →
           u.sec = 0 ∧ u.min = 0 ∧ u.hour = 0 ∧ u.halt = false
           ∧ (if u.dayHi then 256 else 0) + u.dayLo.toNat = (day + 1) % 512
           ∧ u.carry = (t.carry || decide (day = 511))))
     ∧ (∀ (s : State) (r : Mbc3), s.cart.mbc = .mbc3 r → s.cart.timer = true →
         EnvMove.apply s .rtcTick = { s with cart := { s.cart with mbc := .mbc3 { r with live := r.live.tick } } })
     ∧ (∀ s : State, (s.cart.timer = false ∨ ∀ r, s.cart.mbc ≠ .mbc3 r) → EnvMove.apply s .rtcTick = s))

/-- R261, R262, R263: MBC5. -/
def Obligations.Mbc5Mapping : Prop :=
  ∀ (s : State) (r : Mbc5) (a : Addr) (v : Byte), s.cart.mbc = .mbc5 r → let n := a.toNat
    (n ≤ 0x1FFF → busWrite a v s =
      .ok () { s with cart := { s.cart with mbc := .mbc5 { r with ramEnable := decide (v = 0x0A) } } })
    ∧ (0x2000 ≤ n → n ≤ 0x2FFF → busWrite a v s =
      .ok () { s with cart := { s.cart with mbc := .mbc5 { r with romBankLo := v } } })
    ∧ (0x3000 ≤ n → n ≤ 0x3FFF → busWrite a v s =
      .ok () { s with cart := { s.cart with mbc := .mbc5 { r with romBankHi := v.truncate 1 } } })
    ∧ (0x4000 ≤ n → n ≤ 0x5FFF → s.cart.rumble = false → busWrite a v s =
      .ok () { s with cart := { s.cart with mbc := .mbc5 { r with ramBank := v.truncate 4 } } })
    ∧ (0x4000 ≤ n → n ≤ 0x5FFF → s.cart.rumble = true → busWrite a v s =
      .ok () { s with
        cart := { s.cart with mbc := .mbc5 { r with rumble := v.getLsbD 3, ramBank := BitVec.ofNat 4 (v.toNat % 8) } }
        history := s.history ++ (if v.getLsbD 3 = r.rumble then [] else [.rumble (v.getLsbD 3)]) })
    ∧ (0x6000 ≤ n → n ≤ 0x7FFF → busWrite a v s = .ok () s)
    ∧ (n ≤ 0x3FFF → busRead a s = .ok (s.rom.read n) s)
    ∧ (0x4000 ≤ n → n ≤ 0x7FFF → busRead a s = .ok (s.rom.read
        (((r.romBankHi.toNat * 256 + r.romBankLo.toNat) % s.cart.romBanks) * 0x4000 + (n - 0x4000))) s)
    ∧ (0xA000 ≤ n → n ≤ 0xBFFF →
      (r.ramEnable = false →
        let seen := { s with history := s.history ++ [.invalidAccess .ramDisabled a] }
        busRead a s = .ok s.params.openBusValue seen ∧ busWrite a v s = .ok () seen)
      ∧ (r.ramEnable = true → s.cart.ramBanks = 0 →
        let seen := { s with history := s.history ++ [.invalidAccess .ramAbsent a] }
        busRead a s = .ok s.params.openBusValue seen ∧ busWrite a v s = .ok () seen)
      ∧ (r.ramEnable = true → s.cart.ramBanks ≠ 0 →
        let off := (r.ramBank.toNat % s.cart.ramBanks) * 0x2000 + (n - 0xA000)
        busRead a s = .ok (s.cartRam.read off) s
        ∧ busWrite a v s = .ok () { s with cartRam := s.cartRam.write off v }))

/-! ## 8-bit loads -/

/-- R400, R401: LD r,r' and LD r,n8. Nothing but the destination and the cycle count changes. -/
def Obligations.LoadRegister : Prop :=
  (∀ (dst src : R8) (s : State), encode (.ldRR dst src) = [0b01#2 ++ dst.code ++ src.code]
    ∧ exec (.ldRR dst src) s =
      .next { s with regs := s.regs.setR8 dst (s.regs.r8 src), cycles := s.cycles + 1 })
  ∧ (∀ (dst : R8) (n : Byte) (s : State), encode (.ldRN dst n) = [0b00#2 ++ dst.code ++ 0b110#3, n]
    ∧ exec (.ldRN dst n) s = .next { s with regs := s.regs.setR8 dst n, cycles := s.cycles + 2 })

/-- R402, R405, R406, R409, R411, R413: the loads of a register from memory. -/
def Obligations.LoadFromMemory : Prop :=
  (∀ dst : R8, encode (.ldRIndHl dst) = [0b01#2 ++ dst.code ++ 0b110#3]
    ∧ loadsByte (.ldRIndHl dst) dst (fun s => s.regs.hl) 2)
  ∧ (encode .ldAIndBc = [0x0A] ∧ loadsByte .ldAIndBc .a (fun s => s.regs.bc) 2)
  ∧ (encode .ldAIndDe = [0x1A] ∧ loadsByte .ldAIndDe .a (fun s => s.regs.de) 2)
  ∧ (∀ lo hi : Byte, encode (.ldAIndN16 (hi ++ lo)) = [0xFA, lo, hi]
    ∧ loadsByte (.ldAIndN16 (hi ++ lo)) .a (fun _ => hi ++ lo) 4)
  ∧ (encode .ldhAIndC = [0xF2] ∧ loadsByte .ldhAIndC .a (fun s => BitVec.ofNat 16 (0xFF00 + s.regs.c.toNat)) 2)
  ∧ (∀ n : Byte, encode (.ldhAIndN8 n) = [0xF0, n]
    ∧ loadsByte (.ldhAIndN8 n) .a (fun _ => BitVec.ofNat 16 (0xFF00 + n.toNat)) 3)

/-- R403, R404, R407, R408, R410, R412, R414: the stores of a register or an immediate to memory. -/
def Obligations.StoreToMemory : Prop :=
  (∀ src : R8, encode (.ldIndHlR src) = [0b01110#5 ++ src.code]
    ∧ storesByte (.ldIndHlR src) (fun s => s.regs.hl) (fun s => s.regs.r8 src) 2)
  ∧ (∀ n : Byte, encode (.ldIndHlN8 n) = [0x36, n] ∧ storesByte (.ldIndHlN8 n) (fun s => s.regs.hl) (fun _ => n) 3)
  ∧ (encode .ldIndBcA = [0x02] ∧ storesByte .ldIndBcA (fun s => s.regs.bc) (fun s => s.regs.a) 2)
  ∧ (encode .ldIndDeA = [0x12] ∧ storesByte .ldIndDeA (fun s => s.regs.de) (fun s => s.regs.a) 2)
  ∧ (∀ lo hi : Byte, encode (.ldIndN16A (hi ++ lo)) = [0xEA, lo, hi]
    ∧ storesByte (.ldIndN16A (hi ++ lo)) (fun _ => hi ++ lo) (fun s => s.regs.a) 4)
  ∧ (encode .ldhIndCA = [0xE2]
    ∧ storesByte .ldhIndCA (fun s => BitVec.ofNat 16 (0xFF00 + s.regs.c.toNat)) (fun s => s.regs.a) 2)
  ∧ (∀ n : Byte, encode (.ldhIndN8A n) = [0xE0, n]
    ∧ storesByte (.ldhIndN8A n) (fun _ => BitVec.ofNat 16 (0xFF00 + n.toNat)) (fun s => s.regs.a) 3)

/-- R415, R416, R417, R418: the loads and stores of A at HL that move HL by one. -/
def Obligations.LoadStoreMoveHl : Prop :=
  ∀ s : State, let up := BitVec.ofNat 16 (s.regs.hl.toNat + 1); let down := BitVec.ofNat 16 (s.regs.hl.toNat + 0xFFFF)
    let moved (t : State) (g : Regs) (hl : Addr) : State := { t with regs := g.setPair .hl hl, cycles := s.cycles + 2 }
    encode .ldAIndHlInc = [0x2A] ∧ encode .ldAIndHlDec = [0x3A] ∧ encode .ldIndHlIncA = [0x22]
    ∧ encode .ldIndHlDecA = [0x32]
    ∧ (¬s.readFaults s.regs.hl → ∃ v u, s.reads s.regs.hl v u
        ∧ exec .ldAIndHlInc s = .next (moved u { s.regs with a := v } up)
        ∧ exec .ldAIndHlDec s = .next (moved u { s.regs with a := v } down))
    ∧ (¬s.writeFaults s.regs.hl s.regs.a → ∃ t, s.writes s.regs.hl s.regs.a t
        ∧ exec .ldIndHlIncA s = .next (moved t s.regs up)
        ∧ exec .ldIndHlDecA s = .next (moved t s.regs down))
    ∧ (s.readFaults s.regs.hl → ∃ t, memRead s.regs.hl s = .stop t
        ∧ exec .ldAIndHlInc s = .next t ∧ exec .ldAIndHlDec s = .next t)
    ∧ (s.writeFaults s.regs.hl s.regs.a → ∃ t, memWrite s.regs.hl s.regs.a s = .stop t
        ∧ exec .ldIndHlIncA s = .next t ∧ exec .ldIndHlDecA s = .next t)

/-! ## 16-bit loads -/

/-- R430, R432, R500, R501: LD rr,n16, LD SP,HL, INC rr and DEC rr; none writes a flag. -/
def Obligations.LoadAndMovePair : Prop :=
  ((∀ (p : Pair) (lo hi : Byte) (s : State), encode (.ldPairN p (hi ++ lo)) = [0b00#2 ++ p.code ++ 0b0001#4, lo, hi]
     ∧ exec (.ldPairN p (hi ++ lo)) s =
       .next { s with regs := s.regs.setPair p (hi ++ lo), cycles := s.cycles + 3 })
   ∧ (encode .ldSpHl = [0xF9] ∧ ∀ s : State,
       exec .ldSpHl s = .next { s with regs := { s.regs with sp := s.regs.hl }, cycles := s.cycles + 2 }))
  ∧ (∀ (p : Pair) (s : State), encode (.incPair p) = [0b00#2 ++ p.code ++ 0b0011#4]
       ∧ encode (.decPair p) = [0b00#2 ++ p.code ++ 0b1011#4]
       ∧ exec (.incPair p) s =
         .next { s with regs := s.regs.setPair p (BitVec.ofNat 16 ((s.regs.pair p).toNat + 1)), cycles := s.cycles + 2 }
       ∧ exec (.decPair p) s =
         .next { s with
           regs := s.regs.setPair p (BitVec.ofNat 16 ((s.regs.pair p).toNat + 0xFFFF)), cycles := s.cycles + 2 })

/-- R431: LD (n16),SP stores SP's low byte at n16 and its high byte at n16 + 1. -/
def Obligations.StoreSp : Prop :=
  ∀ (lo hi : Byte) (s : State), let n : Addr := hi ++ lo
    encode (.ldIndN16Sp n) = [0x08, lo, hi]
    ∧ (¬s.writePairFaults n (s.regs.sp.extractLsb' 0 8) (n + 1) (s.regs.sp.extractLsb' 8 8) →
      ∃ u t, s.writes n (s.regs.sp.extractLsb' 0 8) u ∧ u.writes (n + 1) (s.regs.sp.extractLsb' 8 8) t
        ∧ t.regs = s.regs
        ∧ (s.plain n = true → t.peek n = some (s.regs.sp.extractLsb' 0 8))
        ∧ (s.plain (n + 1) = true → t.peek (n + 1) = some (s.regs.sp.extractLsb' 8 8))
        ∧ exec (.ldIndN16Sp n) s = .next { t with cycles := s.cycles + 5 })
    ∧ (∀ t, memWrite n (s.regs.sp.extractLsb' 0 8) s = .stop t → exec (.ldIndN16Sp n) s = .next t)
    ∧ (∀ u t, memWrite n (s.regs.sp.extractLsb' 0 8) s = .ok () u →
      memWrite (n + 1) (s.regs.sp.extractLsb' 8 8) u = .stop t → exec (.ldIndN16Sp n) s = .next t)

/-- R433, R434, R219: PUSH. -/
def Obligations.PushStoresPair : Prop :=
  (∀ (p : StackPair) (s : State), encode (.push p) = [0b11#2 ++ p.code ++ 0b0101#4]
    ∧ pushFaultEnds (.push p) (s.regs.stackPair p) s
    ∧ (¬s.pushFaults (s.regs.stackPair p) →
      ∃ t, s.pushes (s.regs.stackPair p) t ∧ exec (.push p) s = .next { t with cycles := s.cycles + 4 }))
  ∧ (∀ s : State, encode .pushAf = [0xF5] ∧ pushFaultEnds .pushAf (s.regs.a ++ s.regs.f) s
    ∧ (¬s.pushFaults (s.regs.a ++ s.regs.f) →
      ∃ t, s.pushes (s.regs.a ++ s.regs.f) t ∧ exec .pushAf s = .next { t with cycles := s.cycles + 4 }))

/-- R436, R437, R220: POP; POP AF drops the low nibble of the byte that goes to F. -/
def Obligations.PopLoadsPair : Prop :=
  (∀ (p : StackPair) (s : State), encode (.pop p) = [0b11#2 ++ p.code ++ 0b0001#4] ∧ popFaultEnds (.pop p) s
    ∧ (¬s.popFaults → ∃ v t, s.pops v t
      ∧ exec (.pop p) s = .next { t with regs := t.regs.setStackPair p v, cycles := s.cycles + 3 }))
  ∧ (∀ s : State, encode .popAf = [0xF1] ∧ popFaultEnds .popAf s
    ∧ (¬s.popFaults → ∃ (a f : Byte) (t : State), s.pops (a ++ f) t
      ∧ exec .popAf s = .next { t with regs := { t.regs with a := a, f := f &&& 0xF0 }, cycles := s.cycles + 3 }))

/-! ## 8-bit arithmetic and logic -/

/-- R460, R461, R462, R463, R464, R465: ADD and ADC, on a register, the byte at HL and an immediate. -/
def Obligations.AddAndAdc : Prop :=
  (∀ (o : Opd) (s : State), encode (.aluO .add o) = [0b10000#5 ++ o.code] ∧ encode (.aluO .adc o) = [0b10001#5 ++ o.code]
    ∧ readFaultEnds (.aluO .add o) o s ∧ readFaultEnds (.aluO .adc o) o s
    ∧ (¬s.opdReadFaults o → ∃ v u, s.opdReads o v u
      ∧ (∃ t, exec (.aluO .add o) s = .next t ∧ u.added t v 0 (opdCost o 1 2))
      ∧ (∃ t, exec (.aluO .adc o) s = .next t ∧ u.added t v (s.regs.f.getLsbD 4).toNat (opdCost o 1 2))))
  ∧ (∀ (n : Byte) (s : State), encode (.aluN .add n) = [0xC6, n] ∧ encode (.aluN .adc n) = [0xCE, n]
    ∧ (∃ t, exec (.aluN .add n) s = .next t ∧ s.added t n 0 2)
    ∧ (∃ t, exec (.aluN .adc n) s = .next t ∧ s.added t n (s.regs.f.getLsbD 4).toNat 2))

/-- R466 to R471 and R481, R482, R483: SUB, SBC and CP; CP leaves A as it was. -/
def Obligations.SubSbcAndCp : Prop :=
  (∀ (o : Opd) (s : State), encode (.aluO .sub o) = [0b10010#5 ++ o.code] ∧ encode (.aluO .sbc o) = [0b10011#5 ++ o.code]
    ∧ encode (.aluO .cp o) = [0b10111#5 ++ o.code]
    ∧ readFaultEnds (.aluO .sub o) o s ∧ readFaultEnds (.aluO .sbc o) o s ∧ readFaultEnds (.aluO .cp o) o s
    ∧ (¬s.opdReadFaults o → ∃ v u, s.opdReads o v u
      ∧ (∃ d t, exec (.aluO .sub o) s = .next t ∧ u.subtracts t v d 0
        ∧ t = { u with regs := { u.regs with a := d, f := t.regs.f }, cycles := s.cycles + opdCost o 1 2 })
      ∧ (∃ d t, exec (.aluO .sbc o) s = .next t ∧ u.subtracts t v d (s.regs.f.getLsbD 4).toNat
        ∧ t = { u with regs := { u.regs with a := d, f := t.regs.f }, cycles := s.cycles + opdCost o 1 2 })
      ∧ (∃ d t, exec (.aluO .cp o) s = .next t ∧ u.subtracts t v d 0
        ∧ t = { u with regs := { u.regs with f := t.regs.f }, cycles := s.cycles + opdCost o 1 2 })))
  ∧ (∀ (n : Byte) (s : State), encode (.aluN .sub n) = [0xD6, n] ∧ encode (.aluN .sbc n) = [0xDE, n]
    ∧ encode (.aluN .cp n) = [0xFE, n]
    ∧ (∃ d t, exec (.aluN .sub n) s = .next t ∧ s.subtracts t n d 0
      ∧ t = { s with regs := { s.regs with a := d, f := t.regs.f }, cycles := s.cycles + 2 })
    ∧ (∃ d t, exec (.aluN .sbc n) s = .next t ∧ s.subtracts t n d (s.regs.f.getLsbD 4).toNat
      ∧ t = { s with regs := { s.regs with a := d, f := t.regs.f }, cycles := s.cycles + 2 })
    ∧ (∃ d t, exec (.aluN .cp n) s = .next t ∧ s.subtracts t n d 0
      ∧ t = { s with regs := { s.regs with f := t.regs.f }, cycles := s.cycles + 2 }))

/-- R472 to R480: AND, XOR and OR; H is 1 after AND. -/
def Obligations.AndXorOr : Prop :=
  ∀ (op : AluOp) (f : Byte → Byte → Byte) (h : Bool),
    (op = .and ∧ f = (· &&& ·) ∧ h = true) ∨ (op = .xor ∧ f = (· ^^^ ·) ∧ h = false)
      ∨ (op = .or ∧ f = (· ||| ·) ∧ h = false) →
    (∀ (o : Opd) (s : State), encode (.aluO op o) = [0b10#2 ++ op.code ++ o.code] ∧ readFaultEnds (.aluO op o) o s
      ∧ (¬s.opdReadFaults o → ∃ v u t, s.opdReads o v u ∧ exec (.aluO op o) s = .next t
        ∧ t.regs.flagsAre (decide (f u.regs.a v = 0)) false h false
        ∧ t = { u with regs := { u.regs with a := f u.regs.a v, f := t.regs.f }, cycles := s.cycles + opdCost o 1 2 }))
    ∧ (∀ (n : Byte) (s : State), encode (.aluN op n) = [0b11#2 ++ op.code ++ 0b110#3, n]
      ∧ ∃ t, exec (.aluN op n) s = .next t ∧ t.regs.flagsAre (decide (f s.regs.a n = 0)) false h false
        ∧ t = { s with regs := { s.regs with a := f s.regs.a n, f := t.regs.f }, cycles := s.cycles + 2 })

/-- R484, R485, R486, R487: INC and DEC of a register and of the byte at HL; C is unchanged. -/
def Obligations.IncAndDec : Prop :=
  ∀ (o : Opd) (s : State), encode (.incO o) = [0b00#2 ++ o.code ++ 0b100#3]
    ∧ encode (.decO o) = [0b00#2 ++ o.code ++ 0b101#3]
    ∧ readFaultEnds (.incO o) o s ∧ writeFaultEnds (.incO o) o (· + 1) s
    ∧ readFaultEnds (.decO o) o s ∧ writeFaultEnds (.decO o) o (· - 1) s
    ∧ (¬s.opdUpdateFaults o (· + 1) → ∃ v u w t, s.opdReads o v u ∧ u.opdWrites o (v + 1) w
      ∧ exec (.incO o) s = .next t
      ∧ t.regs.flagsAre (decide (v = 0xFF)) false (decide (v.toNat % 16 = 15)) (s.regs.f.getLsbD 4)
      ∧ t = { w with regs := { w.regs with f := t.regs.f }, cycles := s.cycles + opdCost o 1 3 })
    ∧ (¬s.opdUpdateFaults o (· - 1) → ∃ v u w t, s.opdReads o v u ∧ u.opdWrites o (v - 1) w
      ∧ exec (.decO o) s = .next t
      ∧ t.regs.flagsAre (decide (v = 1)) true (decide (v.toNat % 16 = 0)) (s.regs.f.getLsbD 4)
      ∧ t = { w with regs := { w.regs with f := t.regs.f }, cycles := s.cycles + opdCost o 1 3 })

/-- R488, R489, R490, R491: DAA for every A, N, H and C, written as the rule writes it; CPL, SCF and CCF. -/
def Obligations.DaaCplScfCcf : Prop :=
  (encode .daa = [0x27] ∧ ∀ s : State,
     let a := s.regs.a.toNat
     let n := s.regs.f.getLsbD 6
     let h := s.regs.f.getLsbD 5
     let c := s.regs.f.getLsbD 4
     let high := if n then c else c || decide (0x99 < a)
     let low := if n then h else h || decide (9 < a % 16)
     let adj := (if high then 0x60 else 0) + (if low then 0x06 else 0)
     ∃ t, exec .daa s = .next t
       ∧ t.regs.a.toNat = (if n then a + 256 - adj else a + adj) % 256
       ∧ t.regs.flagsAre (decide (t.regs.a = 0)) n false high
       ∧ t = { s with regs := { s.regs with a := t.regs.a, f := t.regs.f }, cycles := s.cycles + 1 })
  ∧ (encode .cpl = [0x2F] ∧ encode .scf = [0x37] ∧ encode .ccf = [0x3F] ∧ ∀ s : State,
       let z := s.regs.f.getLsbD 7
       let c := s.regs.f.getLsbD 4
       (∃ t, exec .cpl s = .next t ∧ t.regs.flagsAre z true true c
         ∧ t = { s with regs := { s.regs with a := ~~~s.regs.a, f := t.regs.f }, cycles := s.cycles + 1 })
       ∧ (∃ t, exec .scf s = .next t ∧ t.regs.flagsAre z false false true
         ∧ t = { s with regs := { s.regs with f := t.regs.f }, cycles := s.cycles + 1 })
       ∧ (∃ t, exec .ccf s = .next t ∧ t.regs.flagsAre z false false (!c)
         ∧ t = { s with regs := { s.regs with f := t.regs.f }, cycles := s.cycles + 1 }))

/-! ## 16-bit arithmetic -/

/-- R502, R435, R503: ADD HL,rr keeps Z, and H and C are the carries out of bits 11 and 15; LD HL,SP+e8 and ADD SP,e8
clear Z, and H and C come from the raw byte added to SP's low byte. -/
def Obligations.SixteenBitAdds : Prop :=
  (∀ (p : Pair) (s : State), let a := s.regs.hl.toNat; let b := (s.regs.pair p).toNat
     encode (.addHl p) = [0b00#2 ++ p.code ++ 0b1001#4]
     ∧ ∃ t, exec (.addHl p) s = .next t
       ∧ t.regs.flagsAre (s.regs.f.getLsbD 7) false (decide (0xFFF < a % 0x1000 + b % 0x1000)) (decide (0xFFFF < a + b))
       ∧ t = { s with
           regs := { s.regs.setPair .hl (BitVec.ofNat 16 (a + b)) with f := t.regs.f }, cycles := s.cycles + 2 })
  ∧ (∀ (e : Byte) (s : State),
       let sum := BitVec.ofInt 16 (s.regs.sp.toNat + e.toInt)
       let h := decide (0xF < s.regs.sp.toNat % 16 + e.toNat % 16)
       let c := decide (0xFF < s.regs.sp.toNat % 256 + e.toNat)
       encode (.ldHlSpE8 e) = [0xF8, e] ∧ encode (.addSpE8 e) = [0xE8, e]
       ∧ (∃ t, exec (.ldHlSpE8 e) s = .next t ∧ t.regs.flagsAre false false h c
         ∧ t = { s with regs := { s.regs.setPair .hl sum with f := t.regs.f }, cycles := s.cycles + 3 })
       ∧ (∃ t, exec (.addSpE8 e) s = .next t ∧ t.regs.flagsAre false false h c
         ∧ t = { s with regs := { s.regs with sp := sum, f := t.regs.f }, cycles := s.cycles + 4 }))

/-! ## Rotates, shifts and bit operations -/

/-- R520 to R531: the rotates of A, whose Z is 0 always; and RLC, RRC, RL and RR on a register and on the byte at HL, whose
Z is computed. -/
def Obligations.Rotates : Prop :=
  (∀ (i : Instr) (op : ShiftOp) (byte : Byte),
     (i = .rlca ∧ op = .rlc ∧ byte = 0x07) ∨ (i = .rrca ∧ op = .rrc ∧ byte = 0x0F)
       ∨ (i = .rla ∧ op = .rl ∧ byte = 0x17) ∨ (i = .rra ∧ op = .rr ∧ byte = 0x1F) →
     encode i = [byte] ∧ ∀ s : State, ∃ t, exec i s = .next t
       ∧ t.regs.flagsAre false false false (shiftCarry op s.regs.a)
       ∧ t = { s with
           regs := { s.regs with a := shiftResult op s.regs.a (s.regs.f.getLsbD 4), f := t.regs.f }
           cycles := s.cycles + 1 })
  ∧ (∀ (op : ShiftOp) (o : Opd) (s : State), op = .rlc ∨ op = .rrc ∨ op = .rl ∨ op = .rr → let c := s.regs.f.getLsbD 4
       encode (.shiftO op o) = [0xCB, 0b00#2 ++ op.code ++ o.code]
       ∧ readFaultEnds (.shiftO op o) o s ∧ writeFaultEnds (.shiftO op o) o (shiftResult op · c) s
       ∧ (¬s.opdUpdateFaults o (shiftResult op · c) → ∃ v u w t, s.opdReads o v u ∧ u.opdWrites o (shiftResult op v c) w
         ∧ exec (.shiftO op o) s = .next t
         ∧ t.regs.flagsAre (decide (shiftResult op v c = 0)) false false (shiftCarry op v)
         ∧ t = { w with regs := { w.regs with f := t.regs.f }, cycles := s.cycles + opdCost o 2 4 }))

/-- R532 to R539: SLA, SRA, SRL and SWAP, on a register and on the byte at HL. -/
def Obligations.ShiftsAndSwap : Prop :=
  ∀ (op : ShiftOp) (o : Opd) (s : State), op = .sla ∨ op = .sra ∨ op = .srl ∨ op = .swap → let c := s.regs.f.getLsbD 4
    encode (.shiftO op o) = [0xCB, 0b00#2 ++ op.code ++ o.code]
    ∧ readFaultEnds (.shiftO op o) o s ∧ writeFaultEnds (.shiftO op o) o (shiftResult op · c) s
    ∧ (¬s.opdUpdateFaults o (shiftResult op · c) → ∃ v u w t, s.opdReads o v u ∧ u.opdWrites o (shiftResult op v c) w
      ∧ exec (.shiftO op o) s = .next t
      ∧ t.regs.flagsAre (decide (shiftResult op v c = 0)) false false (shiftCarry op v)
      ∧ t = { w with regs := { w.regs with f := t.regs.f }, cycles := s.cycles + opdCost o 2 4 })

/-- R540 to R545: BIT writes nothing but Z, N and H; RES and SET change one bit and write no flag. -/
def Obligations.BitOperations : Prop :=
  (∀ (b : Fin 8) (o : Opd) (s : State), encode (.bitO b o) = [0xCB, 0b01#2 ++ BitVec.ofNat 3 b.val ++ o.code]
     ∧ readFaultEnds (.bitO b o) o s
     ∧ (¬s.opdReadFaults o → ∃ v u t, s.opdReads o v u ∧ exec (.bitO b o) s = .next t
       ∧ t.regs.flagsAre (!v.getLsbD b.val) false true (s.regs.f.getLsbD 4)
       ∧ t = { u with regs := { u.regs with f := t.regs.f }, cycles := s.cycles + opdCost o 2 3 }))
  ∧ (∀ (b : Fin 8) (o : Opd) (s : State),
       encode (.resO b o) = [0xCB, 0b10#2 ++ BitVec.ofNat 3 b.val ++ o.code]
       ∧ encode (.setO b o) = [0xCB, 0b11#2 ++ BitVec.ofNat 3 b.val ++ o.code]
       ∧ readFaultEnds (.resO b o) o s ∧ writeFaultEnds (.resO b o) o (fun v => v &&& ~~~(1#8 <<< b.val)) s
       ∧ readFaultEnds (.setO b o) o s ∧ writeFaultEnds (.setO b o) o (fun v => v ||| 1#8 <<< b.val) s
       ∧ (¬s.opdUpdateFaults o (fun v => v &&& ~~~(1#8 <<< b.val)) → ∃ v d u w, s.opdReads o v u ∧ u.opdWrites o d w
         ∧ (∀ k, d.getLsbD k = (v.getLsbD k && decide (k ≠ b.val)))
         ∧ exec (.resO b o) s = .next { w with cycles := s.cycles + opdCost o 2 4 })
       ∧ (¬s.opdUpdateFaults o (fun v => v ||| 1#8 <<< b.val) → ∃ v d u w, s.opdReads o v u ∧ u.opdWrites o d w
         ∧ (∀ k, d.getLsbD k = (v.getLsbD k || decide (k = b.val)))
         ∧ exec (.setO b o) s = .next { w with cycles := s.cycles + opdCost o 2 4 }))

/-- R595: the prefix runs the CB-table entry of its second byte; on a register it completes in every state, and on the
byte at HL wherever a byte can be read and written there. -/
def Obligations.PrefixRunsEntry : Prop :=
  ∀ (op2 : Byte) (s : State),
    (∀ rest, decode (0xCB :: op2 :: rest) = .ok (decodeCb op2) rest)
    ∧ exec (.prefixCb op2) s = exec (decodeCb op2) s
    ∧ (op2.toNat % 8 ≠ 6 → ∃ t, exec (.prefixCb op2) s = .next t ∧ s.onlyRegs t ∧ t.cycles = s.cycles + 2)
    ∧ (op2.toNat % 8 = 6 → (∀ v, ¬s.writeFaults s.regs.hl v) →
        ∃ t, exec (.prefixCb op2) s = .next t ∧ s.onlyRegsAndBus t ∧ s.cycles + 3 ≤ t.cycles)

/-! ## Control transfer -/

/-- R560 to R564, R580, R581: the jumps; a relative target counts from the next instruction. -/
def Obligations.Jumps : Prop :=
  (∀ g : Regs, g.cond .nz = !g.f.getLsbD 7 ∧ g.cond .z = g.f.getLsbD 7 ∧ g.cond .nc = !g.f.getLsbD 4
    ∧ g.cond .c = g.f.getLsbD 4)
  ∧ ∀ s : State, let goTo (pc : Addr) (k : Nat) : State :=
      { s with regs := { s.regs with pc := pc }, cycles := s.cycles + k }
    (∀ lo hi : Byte, encode (.jpN16 (hi ++ lo)) = [0xC3, lo, hi] ∧ exec (.jpN16 (hi ++ lo)) s = .next (goTo (hi ++ lo) 4))
    ∧ encode .jpHl = [0xE9] ∧ exec .jpHl s = .next (goTo s.regs.hl 1)
    ∧ (∀ (cc : Cond) (lo hi : Byte), encode (.jpCc cc (hi ++ lo)) = [0b110#3 ++ cc.code ++ 0b010#3, lo, hi]
      ∧ exec (.jpCc cc (hi ++ lo)) s = .next (if s.regs.cond cc then goTo (hi ++ lo) 4 else goTo s.regs.pc 3))
    ∧ (∀ e : Byte, let target := BitVec.ofInt 16 (s.regs.pc.toNat + e.toInt)
      encode (.jrE8 e) = [0x18, e] ∧ exec (.jrE8 e) s = .next (goTo target 3)
      ∧ ∀ cc : Cond, encode (.jrCc cc e) = [0b001#3 ++ cc.code ++ 0b000#3, e]
        ∧ exec (.jrCc cc e) s = .next (if s.regs.cond cc then goTo target 3 else goTo s.regs.pc 2))

/-- R565, R566, R569: CALL, CALL cc and RST push the address of the next instruction. -/
def Obligations.CallsAndRestarts : Prop :=
  ∀ s : State, let goTo (t : State) (pc : Addr) (k : Nat) : State :=
      { t with regs := { t.regs with pc := pc }, cycles := s.cycles + k }
    (¬s.pushFaults s.regs.pc → ∃ t, s.pushes s.regs.pc t
      ∧ (∀ n : Addr, exec (.callN16 n) s = .next (goTo t n 6))
      ∧ (∀ (cc : Cond) (n : Addr), s.regs.cond cc = true → exec (.callCc cc n) s = .next (goTo t n 6))
      ∧ (∀ y : Fin 8, exec (.rst y) s = .next (goTo t (BitVec.ofNat 16 (y.val * 8)) 4)))
    ∧ (∀ (cc : Cond) (n : Addr), s.regs.cond cc = false → exec (.callCc cc n) s = .next (goTo s s.regs.pc 3))
    ∧ (∀ lo hi : Byte, encode (.callN16 (hi ++ lo)) = [0xCD, lo, hi]
      ∧ ∀ cc : Cond, encode (.callCc cc (hi ++ lo)) = [0b110#3 ++ cc.code ++ 0b100#3, lo, hi])
    ∧ (∀ y : Fin 8, encode (.rst y) = [0b11#2 ++ BitVec.ofNat 3 y.val ++ 0b111#3])
    ∧ (∀ n : Addr, pushFaultEnds (.callN16 n) s.regs.pc s
      ∧ ∀ cc : Cond, s.regs.cond cc = true → pushFaultEnds (.callCc cc n) s.regs.pc s)
    ∧ ∀ y : Fin 8, pushFaultEnds (.rst y) s.regs.pc s

/-- R567, R568, R571: RET, RET cc and RETI; RETI sets IME at once and leaves `eiPending` alone. -/
def Obligations.Returns : Prop :=
  ∀ s : State, let goTo (t : State) (pc : Addr) (k : Nat) : State :=
      { t with regs := { t.regs with pc := pc }, cycles := s.cycles + k }
    (¬s.popFaults → ∃ v t, s.pops v t
      ∧ exec .ret s = .next (goTo t v 4)
      ∧ (∀ cc : Cond, s.regs.cond cc = true → exec (.retCc cc) s = .next (goTo t v 5))
      ∧ exec .reti s = .next { goTo t v 4 with ime := true })
    ∧ (∀ cc : Cond, s.regs.cond cc = false → exec (.retCc cc) s = .next (goTo s s.regs.pc 2))
    ∧ encode .ret = [0xC9] ∧ encode .reti = [0xD9] ∧ (∀ cc : Cond, encode (.retCc cc) = [0b110#3 ++ cc.code ++ 0b000#3])
    ∧ popFaultEnds .ret s ∧ popFaultEnds .reti s ∧ ∀ cc : Cond, s.regs.cond cc = true → popFaultEnds (.retCc cc) s

/-! ## Control of the core -/

/-- R590, R591, R593, R594: NOP, DI and EI; HALT halts, or arms the HALT bug when IME is 0 and an enabled request is
pending. -/
def Obligations.NopHaltDiEi : Prop :=
  (encode .nop = [0x00] ∧ encode .di = [0xF3] ∧ encode .ei = [0xFB] ∧ ∀ s : State,
     exec .nop s = .next { s with cycles := s.cycles + 1 }
     ∧ exec .di s = .next { s with ime := false, eiPending := false, cycles := s.cycles + 1 }
     ∧ exec .ei s = .next { s with eiPending := true, cycles := s.cycles + 1 })
  ∧ (encode .halt = [0x76] ∧ ∀ s : State,
       (s.ime = true ∨ s.ie &&& s.iflag.zeroExtend 8 &&& 0x1F = 0 →
         exec .halt s = .next { s with mode := .halted, cycles := s.cycles + 1 })
       ∧ (s.ime = false → s.ie &&& s.iflag.zeroExtend 8 &&& 0x1F ≠ 0 →
         exec .halt s = .next { s with haltBug := true, cycles := s.cycles + 1 }))

/-- R592: STOP, whatever its second byte; in CGB mode it raises `Unmodelled` with the address of the STOP. -/
def Obligations.StopEntersStoppedMode : Prop :=
  ∀ (b : Byte) (s : State), encode (.stop b) = [0x10, b]
    ∧ (s.params.cgbMode = false → exec (.stop b) s = .next { s with mode := .stopped, cycles := s.cycles + 1 })
    ∧ (s.params.cgbMode = true → exec (.stop b) s =
        .next { s with mode := .faulted, fault := some (.unmodelledStop 0x10 (s.regs.pc - 2)) })

/-- R597, R308: the eleven illegal opcodes raise `IllegalOpcode`, and no step follows. A step that fetches one records the
address it was fetched from, the HALT-bug fetch included, and changes nothing else but what the fetch itself does. That
the address stands in the model's own field `opcodeAddr` is log entry 7, and that the step of a faulted state answers a
Lean fault is log entry 9 (both DEDUCED). -/
def Obligations.IllegalOpcodes : Prop :=
  illegalOps.map Prod.fst = [0xD3, 0xDB, 0xDD, 0xE3, 0xE4, 0xEB, 0xEC, 0xED, 0xF4, 0xFC, 0xFD]
  ∧ ∀ p ∈ illegalOps, (∀ rest, decode (p.1 :: rest) = .ok p.2 rest) ∧ ∀ s : State,
      exec p.2 s = .next { s with mode := .faulted, fault := some (.illegalOpcode p.1 s.opcodeAddr) }
      ∧ (∀ t, exec p.2 s = .next t → step t = .fault (.faulted (some (.illegalOpcode p.1 s.opcodeAddr))))
      ∧ (s.mode ≠ .faulted → let e := s.takeEnv
          e.mode = .running → e.dispatchDue = false → e.holdsAt e.regs.pc [p.1] →
          step s = .next { e with
            regs := { e.regs with pc := if e.haltBug then e.regs.pc else e.regs.pc + 1 }, opcodeAddr := e.regs.pc
            haltBug := false, mode := .faulted, fault := some (.illegalOpcode p.1 e.regs.pc) })

/-! ## The step -/

/-- A step of a running core with no dispatch due fetches the instruction whose bytes stand at pc, runs it, and ends
with the EI promotion and the DMA ticks (R304, R720, R721, R655). The environment's moves come first
(R690, log entry 5); `opcodeAddr` is the model's own field (log entry 7). -/
def Obligations.StepRunsDecodedInstruction : Prop :=
  ∀ (s : State) (i : Instr), s.mode ≠ .faulted → let e := s.takeEnv
    e.mode = .running → e.dispatchDue = false → e.haltBug = false → i.wf = true →
    e.holdsAt e.regs.pc (encode i) →
    step s = runThen e
      { e with regs := { e.regs with pc := e.regs.pc + BitVec.ofNat 16 (encode i).length }, opcodeAddr := e.regs.pc } i

/-- R596: after the HALT bug the opcode is read at pc without advancing it, so the next byte read is the opcode's own
byte again; every later fetch of the instruction is normal. That
the step sets the model's own field `opcodeAddr` is log entry 7 (DEDUCED). -/
def Obligations.HaltBugFetch : Prop :=
  ∀ (s : State) (i : Instr) (op : Byte) (imm : List Byte), s.mode ≠ .faulted → let e := s.takeEnv
    e.mode = .running → e.dispatchDue = false → e.haltBug = true → i.wf = true → encode i = op :: imm →
    e.holdsAt e.regs.pc [op] → e.holdsAt e.regs.pc imm →
    step s = runThen e
      { e with regs := { e.regs with pc := e.regs.pc + BitVec.ofNat 16 imm.length }, opcodeAddr := e.regs.pc,
               haltBug := false } i

/-- R613, R614, R615, R616, R617: an enabled request at a boundary with IME = 1 is dispatched instead of a fetch; the
lowest numbered pending source wins, its request is cleared, the return address is pushed, and a request withdrawn by
the first push sends pc to 0x0000. The step ends with its DMA ticks (R655; a dispatch whose push starts a transfer
gives none, log entry 8). Where a push raises a fault, the step ends in the state that leaves. -/
def Obligations.InterruptDispatch : Prop :=
  ∀ s : State, s.mode ≠ .faulted → let e := s.takeEnv
    let ret := if e.haltBug then BitVec.ofNat 16 (e.regs.pc.toNat + 0xFFFF) else e.regs.pc
    let entered := { e with ime := false, eiPending := false, haltBug := false, mode := .running }
    e.mode = .running ∨ e.mode = .halted → e.ime = true → e.ie &&& e.iflag.zeroExtend 8 &&& 0x1F ≠ 0 →
    (¬e.pushFaults ret → ∃ u t, (entered.setSp (e.regs.sp - 1)).writes (e.regs.sp - 1) (ret.extractLsb' 8 8) u
      ∧ (u.setSp (e.regs.sp - 2)).writes (e.regs.sp - 2) (ret.extractLsb' 0 8) t
      ∧ t.regs = { e.regs with sp := e.regs.sp - 2 }
      ∧ (let p := u.ie &&& u.iflag.zeroExtend 8 &&& 0x1F
         (p = 0 → step s =
           endStep entered { t with regs := { t.regs with pc := 0x0000 }, cycles := e.cycles + 5 })
         ∧ ∀ i : Nat, i < 5 → p.getLsbD i = true → (∀ j < i, p.getLsbD j = false) →
           ∃ f : BitVec 5, (∀ k < 5, f.getLsbD k = (t.iflag.getLsbD k && decide (k ≠ i)))
             ∧ step s = endStep entered { t with
                 regs := { t.regs with pc := BitVec.ofNat 16 (0x0040 + 8 * i) }, iflag := f, cycles := e.cycles + 5 }))
    ∧ (∀ t, pushByte (ret.extractLsb' 8 8) entered = .stop t → step s = .next t)
    ∧ ∀ u t, pushByte (ret.extractLsb' 8 8) entered = .ok () u → pushByte (ret.extractLsb' 0 8) u = .stop t →
        step s = .next t

/-- R620, R655, R713, R720: a stopped core idles a machine cycle with no DMA tick, a halted core with nothing pending
idles one with one tick, and a halted core with something pending wakes and goes on in the same step. -/
def Obligations.IdleAndWake : Prop :=
  ∀ s : State, s.mode ≠ .faulted → let e := s.takeEnv
    (e.mode = .stopped → step s = .next { e with cycles := e.cycles + 1 })
    ∧ (e.mode = .halted → e.ie &&& e.iflag.zeroExtend 8 &&& 0x1F = 0 →
        step s = (dmaTicks 1 { e with cycles := e.cycles + 1 }).outcome)
    ∧ (e.mode = .halted → e.ie &&& e.iflag.zeroExtend 8 &&& 0x1F ≠ 0 →
        step s = step { e with mode := .running, schedule := [] :: e.schedule })

/-- R690, R611, R631: what the environment's moves change. -/
def Obligations.EnvironmentMoves : Prop :=
  ∀ s : State,
    (∀ i : Fin 5, ∃ f : BitVec 5, EnvMove.apply s (.raiseInterrupt i) = { s with iflag := f }
      ∧ ∀ k, f.getLsbD k = (s.iflag.getLsbD k || decide (k = i.val)))
    ∧ (s.mode = .stopped → EnvMove.apply s .wake = { s with mode := .running })
    ∧ (s.mode ≠ .stopped → EnvMove.apply s .wake = s)
    ∧ (s.schedule = [] → s.takeEnv = s)
    ∧ ∀ (moves : List EnvMove) (rest : List (List EnvMove)), s.schedule = moves :: rest →
        s.takeEnv = moves.foldl EnvMove.apply { s with schedule := rest }

/-- R600, R602: a faulted state takes no step, and a step that raises a fault sets the mode and the record together. A
fault of the opcode's fetch, or of a later byte's, ends the step with nothing else changed than what the bytes before it
changed. That a faulted state's step answers a Lean fault is log entry 9, and `opcodeAddr` log entry 7 (both DEDUCED). -/
def Obligations.FaultsEndTheRun : Prop :=
  ((∀ s : State, s.mode = .faulted → step s = .fault (.faulted s.fault))
   ∧ (∀ s : State, s.mode ≠ .faulted → s.fault = none → ∃ t, step s = .next t ∧ t.faultWf))
  ∧ (∀ s : State, s.mode ≠ .faulted → let e := s.takeEnv
       e.mode = .running → e.dispatchDue = false →
       (e.readFaults e.regs.pc → ∃ r, memRead e.regs.pc e = .stop (e.raised r)
         ∧ step s = .next { e with mode := .faulted, fault := some r })
       ∧ ∀ (i : Instr) (seen unseen : List Byte), let next := e.regs.pc + BitVec.ofNat 16 seen.length
           e.haltBug = false → i.wf = true → encode i = seen ++ unseen → seen ≠ [] → unseen ≠ [] →
           e.holdsAt e.regs.pc seen → e.readFaults next →
           ∃ r, memRead next e = .stop (e.raised r)
             ∧ step s = .next { e with
                 regs := { e.regs with pc := next }, opcodeAddr := e.regs.pc, mode := .faulted, fault := some r })

/-! ## The DMA sequencer -/

/-- R652: one tick. That the source address is taken modulo 2^16, which matters for a stride other than 0x100 only, is
the model's choice, log entry 16 (DEDUCED). -/
def Obligations.DmaTick : Prop :=
  ∀ s : State,
    (s.dma.active = false → dmaTick s = .ok () s)
    ∧ (s.dma.active = true → 0 < s.dma.delay →
        dmaTick s = .ok () { s with dma := { s.dma with delay := s.dma.delay - 1 } })
    ∧ (s.dma.active = true → s.dma.delay = 0 →
        let src := BitVec.ofNat 16 (s.dmaReg.toNat * s.params.dmaSourceStride + s.dma.count)
        (∀ (v : Byte) (u : State), busRead src s = .ok v u →
          dmaTick s = .ok () { u with
            oam := u.oam.write s.dma.count v
            dma := { active := decide (s.dma.count + 1 ≠ 160), delay := 0, count := s.dma.count + 1 } })
        ∧ (∀ u : State, busRead src s = .stop u → dmaTick s = .stop u))

/-- R652, R651, R723: from the start of a transfer, exactly start-delay + 160 ticks copy the 160 bytes of the source page
and leave the sequencer inactive; fewer leave it active with the first bytes copied. The source bytes are those the
core stores, and the page is below OAM (R653). -/
def Obligations.DmaTransferCompletes : Prop :=
  ∀ (s : State) (src : Nat → Byte), s.dma.active = true → s.dma.count = 0 → s.params.dmaSourceStride = 0x100 →
    s.dmaReg.toNat < 0xFE →
    (∀ k < 160, s.peek (BitVec.ofNat 16 (s.dmaReg.toNat * 0x100 + k)) = some (src k)) →
    (∃ t, dmaTicks (s.dma.delay + 160) s = .ok () t ∧ t.dma.active = false
      ∧ (∀ k < 160, t.oam.read k = src k) ∧ ∀ k, 160 ≤ k → t.oam.read k = s.oam.read k)
    ∧ ∀ n < s.dma.delay + 160, ∃ t, dmaTicks n s = .ok () t ∧ t.dma.active = true
        ∧ (∀ k, k + s.dma.delay < n → t.oam.read k = src k) ∧ ∀ k, n ≤ k + s.dma.delay → t.oam.read k = s.oam.read k

/-! ## What every step keeps -/

/-- R105: every step leaves F's low nibble zero. -/
def Obligations.StepKeepsFlagNibble : Prop :=
  ∀ s t : State, s.fClean → step s = .next t → t.fClean

/-- Every step keeps every store in its canonical form. -/
def Obligations.StepKeepsStoresCanonical : Prop :=
  ∀ s t : State, s.storesWf → step s = .next t → t.storesWf

/-- R118, R120, R245: every step keeps the stores within their sizes, MBC2's entries nibbles, and the DMA sequencer's
fields in their ranges. -/
def Obligations.StepKeepsRanges : Prop :=
  ∀ s t : State, s.dmaWf → s.storesInRange → step s = .next t → t.dmaWf ∧ t.storesInRange

/-- R204, R121, R230, R123: no step changes a ROM byte, the parameters, or what construction fixed of the cartridge. -/
def Obligations.StepNeverChangesRom : Prop :=
  ∀ s t : State, step s = .next t →
    t.rom = s.rom ∧ t.params = s.params ∧ t.cart = { s.cart with mbc := t.cart.mbc }
    ∧ (∀ r, s.cart.mbc = .mbc1 r → ∃ r', t.cart.mbc = .mbc1 r') ∧ (∀ r, s.cart.mbc = .mbc2 r → ∃ r', t.cart.mbc = .mbc2 r')
    ∧ (∀ r, s.cart.mbc = .mbc3 r → ∃ r', t.cart.mbc = .mbc3 r') ∧ (∀ r, s.cart.mbc = .mbc5 r → ∃ r', t.cart.mbc = .mbc5 r')
    ∧ (s.cart.mbc = .noMbc → t.cart.mbc = .noMbc)

/-- R113, R124, R600: the cycle count and the event history only grow, and the fault record, once set, stays. -/
def Obligations.StepOnlyAppends : Prop :=
  ∀ s t : State, step s = .next t →
    s.cycles ≤ t.cycles ∧ s.draws ≤ t.draws ∧ (∃ more, t.history = s.history ++ more)
    ∧ (s.faultWf → t.faultWf ∧ (s.fault.isSome = true → t.fault = s.fault))

/-! ## Who writes what -/

/-- R109, R110, R111, R112: only DI and RETI change IME inside an instruction, only EI and DI change `eiPending`, only
HALT arms the HALT bug, and only HALT, STOP or a fault change the mode. -/
def Obligations.ControlStateWriters : Prop :=
  ∀ (i : Instr) (s t : State), exec i s = .next t →
    (t.ime = s.ime ∨ i = .di ∨ i = .reti)
    ∧ (t.eiPending = s.eiPending ∨ i = .di ∨ i = .ei)
    ∧ (t.haltBug = s.haltBug ∨ i = .halt)
    ∧ (t.mode = s.mode ∨ t.mode = .faulted ∨ i = .halt ∨ ∃ b, i = .stop b)
    ∧ t.opcodeAddr = s.opcodeAddr ∧ t.schedule = s.schedule

/-- R102's writers of SP and PC and R108's writers of F: an instruction outside the list leaves the register as it was. -/
def Obligations.RegisterAndFlagWriters : Prop :=
  (∀ (i : Instr) (s t : State), exec i s = .next t →
     (t.regs.pc = s.regs.pc ∨ i = .jpHl ∨ i = .ret ∨ i = .reti
       ∨ (∃ n, i = .jpN16 n ∨ i = .callN16 n ∨ ∃ cc, i = .jpCc cc n ∨ i = .callCc cc n)
       ∨ (∃ e, i = .jrE8 e ∨ ∃ cc, i = .jrCc cc e) ∨ (∃ cc, i = .retCc cc) ∨ (∃ y, i = .rst y))
     ∧ (t.regs.sp = s.regs.sp ∨ i = .ldSpHl ∨ i = .ret ∨ i = .reti ∨ i = .pushAf ∨ i = .popAf
       ∨ (∃ n, i = .ldPairN .sp n ∨ i = .callN16 n ∨ ∃ cc, i = .callCc cc n) ∨ (∃ e, i = .addSpE8 e)
       ∨ i = .incPair .sp ∨ i = .decPair .sp ∨ (∃ cc, i = .retCc cc) ∨ (∃ y, i = .rst y) ∨ ∃ p, i = .push p ∨ i = .pop p))
  ∧ (∀ (i : Instr) (s t : State), exec i s = .next t →
       t.regs.f = s.regs.f
       ∨ (∃ op o, i = .aluO op o) ∨ (∃ op n, i = .aluN op n) ∨ (∃ o, i = .incO o ∨ i = .decO o)
       ∨ i = .daa ∨ i = .cpl ∨ i = .scf ∨ i = .ccf ∨ (∃ p, i = .addHl p) ∨ (∃ e, i = .addSpE8 e ∨ i = .ldHlSpE8 e)
       ∨ i = .rlca ∨ i = .rrca ∨ i = .rla ∨ i = .rra ∨ (∃ op o, i = .shiftO op o) ∨ (∃ b o, i = .bitO b o)
       ∨ (∃ op2, i = .prefixCb op2) ∨ i = .popAf)
end

