-- ==== Sys2Proof/Laws/State.lean ====
section
/-! SUPPORT. One lemma per field per update of the state, each true by unfolding once, so that no later proof unfolds
an update. -/

namespace Sys2Proof.Machine

variable (s : State)

/-! ## setR8 -/

@[simp] theorem State.setR8_regs (r : R8) (v : Byte) : (s.setR8 r v).regs = s.regs.setR8 r v := rfl
@[simp] theorem State.setR8_ime (r : R8) (v : Byte) : (s.setR8 r v).ime = s.ime := rfl
@[simp] theorem State.setR8_eiPending (r : R8) (v : Byte) : (s.setR8 r v).eiPending = s.eiPending := rfl
@[simp] theorem State.setR8_mode (r : R8) (v : Byte) : (s.setR8 r v).mode = s.mode := rfl
@[simp] theorem State.setR8_haltBug (r : R8) (v : Byte) : (s.setR8 r v).haltBug = s.haltBug := rfl
@[simp] theorem State.setR8_cycles (r : R8) (v : Byte) : (s.setR8 r v).cycles = s.cycles := rfl
@[simp] theorem State.setR8_ie (r : R8) (v : Byte) : (s.setR8 r v).ie = s.ie := rfl
@[simp] theorem State.setR8_iflag (r : R8) (v : Byte) : (s.setR8 r v).iflag = s.iflag := rfl
@[simp] theorem State.setR8_dmaReg (r : R8) (v : Byte) : (s.setR8 r v).dmaReg = s.dmaReg := rfl
@[simp] theorem State.setR8_dma (r : R8) (v : Byte) : (s.setR8 r v).dma = s.dma := rfl
@[simp] theorem State.setR8_svbk (r : R8) (v : Byte) : (s.setR8 r v).svbk = s.svbk := rfl
@[simp] theorem State.setR8_wram (r : R8) (v : Byte) : (s.setR8 r v).wram = s.wram := rfl
@[simp] theorem State.setR8_hram (r : R8) (v : Byte) : (s.setR8 r v).hram = s.hram := rfl
@[simp] theorem State.setR8_vram (r : R8) (v : Byte) : (s.setR8 r v).vram = s.vram := rfl
@[simp] theorem State.setR8_oam (r : R8) (v : Byte) : (s.setR8 r v).oam = s.oam := rfl
@[simp] theorem State.setR8_rom (r : R8) (v : Byte) : (s.setR8 r v).rom = s.rom := rfl
@[simp] theorem State.setR8_cartRam (r : R8) (v : Byte) : (s.setR8 r v).cartRam = s.cartRam := rfl
@[simp] theorem State.setR8_nram (r : R8) (v : Byte) : (s.setR8 r v).nram = s.nram := rfl
@[simp] theorem State.setR8_cart (r : R8) (v : Byte) : (s.setR8 r v).cart = s.cart := rfl
@[simp] theorem State.setR8_params (r : R8) (v : Byte) : (s.setR8 r v).params = s.params := rfl
@[simp] theorem State.setR8_fault (r : R8) (v : Byte) : (s.setR8 r v).fault = s.fault := rfl
@[simp] theorem State.setR8_history (r : R8) (v : Byte) : (s.setR8 r v).history = s.history := rfl
@[simp] theorem State.setR8_opcodeAddr (r : R8) (v : Byte) : (s.setR8 r v).opcodeAddr = s.opcodeAddr := rfl
@[simp] theorem State.setR8_draws (r : R8) (v : Byte) : (s.setR8 r v).draws = s.draws := rfl
@[simp] theorem State.setR8_schedule (r : R8) (v : Byte) : (s.setR8 r v).schedule = s.schedule := rfl

/-! ## setPair -/

@[simp] theorem State.setPair_regs (p : Pair) (v : Addr) : (s.setPair p v).regs = s.regs.setPair p v := rfl
@[simp] theorem State.setPair_ime (p : Pair) (v : Addr) : (s.setPair p v).ime = s.ime := rfl
@[simp] theorem State.setPair_eiPending (p : Pair) (v : Addr) : (s.setPair p v).eiPending = s.eiPending := rfl
@[simp] theorem State.setPair_mode (p : Pair) (v : Addr) : (s.setPair p v).mode = s.mode := rfl
@[simp] theorem State.setPair_haltBug (p : Pair) (v : Addr) : (s.setPair p v).haltBug = s.haltBug := rfl
@[simp] theorem State.setPair_cycles (p : Pair) (v : Addr) : (s.setPair p v).cycles = s.cycles := rfl
@[simp] theorem State.setPair_ie (p : Pair) (v : Addr) : (s.setPair p v).ie = s.ie := rfl
@[simp] theorem State.setPair_iflag (p : Pair) (v : Addr) : (s.setPair p v).iflag = s.iflag := rfl
@[simp] theorem State.setPair_dmaReg (p : Pair) (v : Addr) : (s.setPair p v).dmaReg = s.dmaReg := rfl
@[simp] theorem State.setPair_dma (p : Pair) (v : Addr) : (s.setPair p v).dma = s.dma := rfl
@[simp] theorem State.setPair_svbk (p : Pair) (v : Addr) : (s.setPair p v).svbk = s.svbk := rfl
@[simp] theorem State.setPair_wram (p : Pair) (v : Addr) : (s.setPair p v).wram = s.wram := rfl
@[simp] theorem State.setPair_hram (p : Pair) (v : Addr) : (s.setPair p v).hram = s.hram := rfl
@[simp] theorem State.setPair_vram (p : Pair) (v : Addr) : (s.setPair p v).vram = s.vram := rfl
@[simp] theorem State.setPair_oam (p : Pair) (v : Addr) : (s.setPair p v).oam = s.oam := rfl
@[simp] theorem State.setPair_rom (p : Pair) (v : Addr) : (s.setPair p v).rom = s.rom := rfl
@[simp] theorem State.setPair_cartRam (p : Pair) (v : Addr) : (s.setPair p v).cartRam = s.cartRam := rfl
@[simp] theorem State.setPair_nram (p : Pair) (v : Addr) : (s.setPair p v).nram = s.nram := rfl
@[simp] theorem State.setPair_cart (p : Pair) (v : Addr) : (s.setPair p v).cart = s.cart := rfl
@[simp] theorem State.setPair_params (p : Pair) (v : Addr) : (s.setPair p v).params = s.params := rfl
@[simp] theorem State.setPair_fault (p : Pair) (v : Addr) : (s.setPair p v).fault = s.fault := rfl
@[simp] theorem State.setPair_history (p : Pair) (v : Addr) : (s.setPair p v).history = s.history := rfl
@[simp] theorem State.setPair_opcodeAddr (p : Pair) (v : Addr) : (s.setPair p v).opcodeAddr = s.opcodeAddr := rfl
@[simp] theorem State.setPair_draws (p : Pair) (v : Addr) : (s.setPair p v).draws = s.draws := rfl
@[simp] theorem State.setPair_schedule (p : Pair) (v : Addr) : (s.setPair p v).schedule = s.schedule := rfl

/-! ## setSp -/

@[simp] theorem State.setSp_regs (v : Addr) : (s.setSp v).regs = { s.regs with sp := v } := rfl
@[simp] theorem State.setSp_ime (v : Addr) : (s.setSp v).ime = s.ime := rfl
@[simp] theorem State.setSp_eiPending (v : Addr) : (s.setSp v).eiPending = s.eiPending := rfl
@[simp] theorem State.setSp_mode (v : Addr) : (s.setSp v).mode = s.mode := rfl
@[simp] theorem State.setSp_haltBug (v : Addr) : (s.setSp v).haltBug = s.haltBug := rfl
@[simp] theorem State.setSp_cycles (v : Addr) : (s.setSp v).cycles = s.cycles := rfl
@[simp] theorem State.setSp_ie (v : Addr) : (s.setSp v).ie = s.ie := rfl
@[simp] theorem State.setSp_iflag (v : Addr) : (s.setSp v).iflag = s.iflag := rfl
@[simp] theorem State.setSp_dmaReg (v : Addr) : (s.setSp v).dmaReg = s.dmaReg := rfl
@[simp] theorem State.setSp_dma (v : Addr) : (s.setSp v).dma = s.dma := rfl
@[simp] theorem State.setSp_svbk (v : Addr) : (s.setSp v).svbk = s.svbk := rfl
@[simp] theorem State.setSp_wram (v : Addr) : (s.setSp v).wram = s.wram := rfl
@[simp] theorem State.setSp_hram (v : Addr) : (s.setSp v).hram = s.hram := rfl
@[simp] theorem State.setSp_vram (v : Addr) : (s.setSp v).vram = s.vram := rfl
@[simp] theorem State.setSp_oam (v : Addr) : (s.setSp v).oam = s.oam := rfl
@[simp] theorem State.setSp_rom (v : Addr) : (s.setSp v).rom = s.rom := rfl
@[simp] theorem State.setSp_cartRam (v : Addr) : (s.setSp v).cartRam = s.cartRam := rfl
@[simp] theorem State.setSp_nram (v : Addr) : (s.setSp v).nram = s.nram := rfl
@[simp] theorem State.setSp_cart (v : Addr) : (s.setSp v).cart = s.cart := rfl
@[simp] theorem State.setSp_params (v : Addr) : (s.setSp v).params = s.params := rfl
@[simp] theorem State.setSp_fault (v : Addr) : (s.setSp v).fault = s.fault := rfl
@[simp] theorem State.setSp_history (v : Addr) : (s.setSp v).history = s.history := rfl
@[simp] theorem State.setSp_opcodeAddr (v : Addr) : (s.setSp v).opcodeAddr = s.opcodeAddr := rfl
@[simp] theorem State.setSp_draws (v : Addr) : (s.setSp v).draws = s.draws := rfl
@[simp] theorem State.setSp_schedule (v : Addr) : (s.setSp v).schedule = s.schedule := rfl

/-! ## setPc -/

@[simp] theorem State.setPc_regs (v : Addr) : (s.setPc v).regs = { s.regs with pc := v } := rfl
@[simp] theorem State.setPc_ime (v : Addr) : (s.setPc v).ime = s.ime := rfl
@[simp] theorem State.setPc_eiPending (v : Addr) : (s.setPc v).eiPending = s.eiPending := rfl
@[simp] theorem State.setPc_mode (v : Addr) : (s.setPc v).mode = s.mode := rfl
@[simp] theorem State.setPc_haltBug (v : Addr) : (s.setPc v).haltBug = s.haltBug := rfl
@[simp] theorem State.setPc_cycles (v : Addr) : (s.setPc v).cycles = s.cycles := rfl
@[simp] theorem State.setPc_ie (v : Addr) : (s.setPc v).ie = s.ie := rfl
@[simp] theorem State.setPc_iflag (v : Addr) : (s.setPc v).iflag = s.iflag := rfl
@[simp] theorem State.setPc_dmaReg (v : Addr) : (s.setPc v).dmaReg = s.dmaReg := rfl
@[simp] theorem State.setPc_dma (v : Addr) : (s.setPc v).dma = s.dma := rfl
@[simp] theorem State.setPc_svbk (v : Addr) : (s.setPc v).svbk = s.svbk := rfl
@[simp] theorem State.setPc_wram (v : Addr) : (s.setPc v).wram = s.wram := rfl
@[simp] theorem State.setPc_hram (v : Addr) : (s.setPc v).hram = s.hram := rfl
@[simp] theorem State.setPc_vram (v : Addr) : (s.setPc v).vram = s.vram := rfl
@[simp] theorem State.setPc_oam (v : Addr) : (s.setPc v).oam = s.oam := rfl
@[simp] theorem State.setPc_rom (v : Addr) : (s.setPc v).rom = s.rom := rfl
@[simp] theorem State.setPc_cartRam (v : Addr) : (s.setPc v).cartRam = s.cartRam := rfl
@[simp] theorem State.setPc_nram (v : Addr) : (s.setPc v).nram = s.nram := rfl
@[simp] theorem State.setPc_cart (v : Addr) : (s.setPc v).cart = s.cart := rfl
@[simp] theorem State.setPc_params (v : Addr) : (s.setPc v).params = s.params := rfl
@[simp] theorem State.setPc_fault (v : Addr) : (s.setPc v).fault = s.fault := rfl
@[simp] theorem State.setPc_history (v : Addr) : (s.setPc v).history = s.history := rfl
@[simp] theorem State.setPc_opcodeAddr (v : Addr) : (s.setPc v).opcodeAddr = s.opcodeAddr := rfl
@[simp] theorem State.setPc_draws (v : Addr) : (s.setPc v).draws = s.draws := rfl
@[simp] theorem State.setPc_schedule (v : Addr) : (s.setPc v).schedule = s.schedule := rfl

/-! ## setF -/

@[simp] theorem State.setF_regs (v : Byte) : (s.setF v).regs = { s.regs with f := v &&& 0xF0 } := rfl
@[simp] theorem State.setF_ime (v : Byte) : (s.setF v).ime = s.ime := rfl
@[simp] theorem State.setF_eiPending (v : Byte) : (s.setF v).eiPending = s.eiPending := rfl
@[simp] theorem State.setF_mode (v : Byte) : (s.setF v).mode = s.mode := rfl
@[simp] theorem State.setF_haltBug (v : Byte) : (s.setF v).haltBug = s.haltBug := rfl
@[simp] theorem State.setF_cycles (v : Byte) : (s.setF v).cycles = s.cycles := rfl
@[simp] theorem State.setF_ie (v : Byte) : (s.setF v).ie = s.ie := rfl
@[simp] theorem State.setF_iflag (v : Byte) : (s.setF v).iflag = s.iflag := rfl
@[simp] theorem State.setF_dmaReg (v : Byte) : (s.setF v).dmaReg = s.dmaReg := rfl
@[simp] theorem State.setF_dma (v : Byte) : (s.setF v).dma = s.dma := rfl
@[simp] theorem State.setF_svbk (v : Byte) : (s.setF v).svbk = s.svbk := rfl
@[simp] theorem State.setF_wram (v : Byte) : (s.setF v).wram = s.wram := rfl
@[simp] theorem State.setF_hram (v : Byte) : (s.setF v).hram = s.hram := rfl
@[simp] theorem State.setF_vram (v : Byte) : (s.setF v).vram = s.vram := rfl
@[simp] theorem State.setF_oam (v : Byte) : (s.setF v).oam = s.oam := rfl
@[simp] theorem State.setF_rom (v : Byte) : (s.setF v).rom = s.rom := rfl
@[simp] theorem State.setF_cartRam (v : Byte) : (s.setF v).cartRam = s.cartRam := rfl
@[simp] theorem State.setF_nram (v : Byte) : (s.setF v).nram = s.nram := rfl
@[simp] theorem State.setF_cart (v : Byte) : (s.setF v).cart = s.cart := rfl
@[simp] theorem State.setF_params (v : Byte) : (s.setF v).params = s.params := rfl
@[simp] theorem State.setF_fault (v : Byte) : (s.setF v).fault = s.fault := rfl
@[simp] theorem State.setF_history (v : Byte) : (s.setF v).history = s.history := rfl
@[simp] theorem State.setF_opcodeAddr (v : Byte) : (s.setF v).opcodeAddr = s.opcodeAddr := rfl
@[simp] theorem State.setF_draws (v : Byte) : (s.setF v).draws = s.draws := rfl
@[simp] theorem State.setF_schedule (v : Byte) : (s.setF v).schedule = s.schedule := rfl

/-! ## setFlags -/

@[simp] theorem State.setFlags_regs (z n h c : Bool) : (s.setFlags z n h c).regs = { s.regs with f := flagByte z n h c } := rfl
@[simp] theorem State.setFlags_ime (z n h c : Bool) : (s.setFlags z n h c).ime = s.ime := rfl
@[simp] theorem State.setFlags_eiPending (z n h c : Bool) : (s.setFlags z n h c).eiPending = s.eiPending := rfl
@[simp] theorem State.setFlags_mode (z n h c : Bool) : (s.setFlags z n h c).mode = s.mode := rfl
@[simp] theorem State.setFlags_haltBug (z n h c : Bool) : (s.setFlags z n h c).haltBug = s.haltBug := rfl
@[simp] theorem State.setFlags_cycles (z n h c : Bool) : (s.setFlags z n h c).cycles = s.cycles := rfl
@[simp] theorem State.setFlags_ie (z n h c : Bool) : (s.setFlags z n h c).ie = s.ie := rfl
@[simp] theorem State.setFlags_iflag (z n h c : Bool) : (s.setFlags z n h c).iflag = s.iflag := rfl
@[simp] theorem State.setFlags_dmaReg (z n h c : Bool) : (s.setFlags z n h c).dmaReg = s.dmaReg := rfl
@[simp] theorem State.setFlags_dma (z n h c : Bool) : (s.setFlags z n h c).dma = s.dma := rfl
@[simp] theorem State.setFlags_svbk (z n h c : Bool) : (s.setFlags z n h c).svbk = s.svbk := rfl
@[simp] theorem State.setFlags_wram (z n h c : Bool) : (s.setFlags z n h c).wram = s.wram := rfl
@[simp] theorem State.setFlags_hram (z n h c : Bool) : (s.setFlags z n h c).hram = s.hram := rfl
@[simp] theorem State.setFlags_vram (z n h c : Bool) : (s.setFlags z n h c).vram = s.vram := rfl
@[simp] theorem State.setFlags_oam (z n h c : Bool) : (s.setFlags z n h c).oam = s.oam := rfl
@[simp] theorem State.setFlags_rom (z n h c : Bool) : (s.setFlags z n h c).rom = s.rom := rfl
@[simp] theorem State.setFlags_cartRam (z n h c : Bool) : (s.setFlags z n h c).cartRam = s.cartRam := rfl
@[simp] theorem State.setFlags_nram (z n h c : Bool) : (s.setFlags z n h c).nram = s.nram := rfl
@[simp] theorem State.setFlags_cart (z n h c : Bool) : (s.setFlags z n h c).cart = s.cart := rfl
@[simp] theorem State.setFlags_params (z n h c : Bool) : (s.setFlags z n h c).params = s.params := rfl
@[simp] theorem State.setFlags_fault (z n h c : Bool) : (s.setFlags z n h c).fault = s.fault := rfl
@[simp] theorem State.setFlags_history (z n h c : Bool) : (s.setFlags z n h c).history = s.history := rfl
@[simp] theorem State.setFlags_opcodeAddr (z n h c : Bool) : (s.setFlags z n h c).opcodeAddr = s.opcodeAddr := rfl
@[simp] theorem State.setFlags_draws (z n h c : Bool) : (s.setFlags z n h c).draws = s.draws := rfl
@[simp] theorem State.setFlags_schedule (z n h c : Bool) : (s.setFlags z n h c).schedule = s.schedule := rfl

/-! ## addCycles -/

@[simp] theorem State.addCycles_regs (k : Nat) : (s.addCycles k).regs = s.regs := rfl
@[simp] theorem State.addCycles_ime (k : Nat) : (s.addCycles k).ime = s.ime := rfl
@[simp] theorem State.addCycles_eiPending (k : Nat) : (s.addCycles k).eiPending = s.eiPending := rfl
@[simp] theorem State.addCycles_mode (k : Nat) : (s.addCycles k).mode = s.mode := rfl
@[simp] theorem State.addCycles_haltBug (k : Nat) : (s.addCycles k).haltBug = s.haltBug := rfl
@[simp] theorem State.addCycles_cycles (k : Nat) : (s.addCycles k).cycles = s.cycles + k := rfl
@[simp] theorem State.addCycles_ie (k : Nat) : (s.addCycles k).ie = s.ie := rfl
@[simp] theorem State.addCycles_iflag (k : Nat) : (s.addCycles k).iflag = s.iflag := rfl
@[simp] theorem State.addCycles_dmaReg (k : Nat) : (s.addCycles k).dmaReg = s.dmaReg := rfl
@[simp] theorem State.addCycles_dma (k : Nat) : (s.addCycles k).dma = s.dma := rfl
@[simp] theorem State.addCycles_svbk (k : Nat) : (s.addCycles k).svbk = s.svbk := rfl
@[simp] theorem State.addCycles_wram (k : Nat) : (s.addCycles k).wram = s.wram := rfl
@[simp] theorem State.addCycles_hram (k : Nat) : (s.addCycles k).hram = s.hram := rfl
@[simp] theorem State.addCycles_vram (k : Nat) : (s.addCycles k).vram = s.vram := rfl
@[simp] theorem State.addCycles_oam (k : Nat) : (s.addCycles k).oam = s.oam := rfl
@[simp] theorem State.addCycles_rom (k : Nat) : (s.addCycles k).rom = s.rom := rfl
@[simp] theorem State.addCycles_cartRam (k : Nat) : (s.addCycles k).cartRam = s.cartRam := rfl
@[simp] theorem State.addCycles_nram (k : Nat) : (s.addCycles k).nram = s.nram := rfl
@[simp] theorem State.addCycles_cart (k : Nat) : (s.addCycles k).cart = s.cart := rfl
@[simp] theorem State.addCycles_params (k : Nat) : (s.addCycles k).params = s.params := rfl
@[simp] theorem State.addCycles_fault (k : Nat) : (s.addCycles k).fault = s.fault := rfl
@[simp] theorem State.addCycles_history (k : Nat) : (s.addCycles k).history = s.history := rfl
@[simp] theorem State.addCycles_opcodeAddr (k : Nat) : (s.addCycles k).opcodeAddr = s.opcodeAddr := rfl
@[simp] theorem State.addCycles_draws (k : Nat) : (s.addCycles k).draws = s.draws := rfl
@[simp] theorem State.addCycles_schedule (k : Nat) : (s.addCycles k).schedule = s.schedule := rfl

/-! ## record -/

@[simp] theorem State.record_regs (e : Event) : (s.record e).regs = s.regs := rfl
@[simp] theorem State.record_ime (e : Event) : (s.record e).ime = s.ime := rfl
@[simp] theorem State.record_eiPending (e : Event) : (s.record e).eiPending = s.eiPending := rfl
@[simp] theorem State.record_mode (e : Event) : (s.record e).mode = s.mode := rfl
@[simp] theorem State.record_haltBug (e : Event) : (s.record e).haltBug = s.haltBug := rfl
@[simp] theorem State.record_cycles (e : Event) : (s.record e).cycles = s.cycles := rfl
@[simp] theorem State.record_ie (e : Event) : (s.record e).ie = s.ie := rfl
@[simp] theorem State.record_iflag (e : Event) : (s.record e).iflag = s.iflag := rfl
@[simp] theorem State.record_dmaReg (e : Event) : (s.record e).dmaReg = s.dmaReg := rfl
@[simp] theorem State.record_dma (e : Event) : (s.record e).dma = s.dma := rfl
@[simp] theorem State.record_svbk (e : Event) : (s.record e).svbk = s.svbk := rfl
@[simp] theorem State.record_wram (e : Event) : (s.record e).wram = s.wram := rfl
@[simp] theorem State.record_hram (e : Event) : (s.record e).hram = s.hram := rfl
@[simp] theorem State.record_vram (e : Event) : (s.record e).vram = s.vram := rfl
@[simp] theorem State.record_oam (e : Event) : (s.record e).oam = s.oam := rfl
@[simp] theorem State.record_rom (e : Event) : (s.record e).rom = s.rom := rfl
@[simp] theorem State.record_cartRam (e : Event) : (s.record e).cartRam = s.cartRam := rfl
@[simp] theorem State.record_nram (e : Event) : (s.record e).nram = s.nram := rfl
@[simp] theorem State.record_cart (e : Event) : (s.record e).cart = s.cart := rfl
@[simp] theorem State.record_params (e : Event) : (s.record e).params = s.params := rfl
@[simp] theorem State.record_fault (e : Event) : (s.record e).fault = s.fault := rfl
@[simp] theorem State.record_history (e : Event) : (s.record e).history = s.history ++ [e] := rfl
@[simp] theorem State.record_opcodeAddr (e : Event) : (s.record e).opcodeAddr = s.opcodeAddr := rfl
@[simp] theorem State.record_draws (e : Event) : (s.record e).draws = s.draws := rfl
@[simp] theorem State.record_schedule (e : Event) : (s.record e).schedule = s.schedule := rfl

/-! ## drawn -/

@[simp] theorem State.drawn_regs : (s.drawn).regs = s.regs := rfl
@[simp] theorem State.drawn_ime : (s.drawn).ime = s.ime := rfl
@[simp] theorem State.drawn_eiPending : (s.drawn).eiPending = s.eiPending := rfl
@[simp] theorem State.drawn_mode : (s.drawn).mode = s.mode := rfl
@[simp] theorem State.drawn_haltBug : (s.drawn).haltBug = s.haltBug := rfl
@[simp] theorem State.drawn_cycles : (s.drawn).cycles = s.cycles := rfl
@[simp] theorem State.drawn_ie : (s.drawn).ie = s.ie := rfl
@[simp] theorem State.drawn_iflag : (s.drawn).iflag = s.iflag := rfl
@[simp] theorem State.drawn_dmaReg : (s.drawn).dmaReg = s.dmaReg := rfl
@[simp] theorem State.drawn_dma : (s.drawn).dma = s.dma := rfl
@[simp] theorem State.drawn_svbk : (s.drawn).svbk = s.svbk := rfl
@[simp] theorem State.drawn_wram : (s.drawn).wram = s.wram := rfl
@[simp] theorem State.drawn_hram : (s.drawn).hram = s.hram := rfl
@[simp] theorem State.drawn_vram : (s.drawn).vram = s.vram := rfl
@[simp] theorem State.drawn_oam : (s.drawn).oam = s.oam := rfl
@[simp] theorem State.drawn_rom : (s.drawn).rom = s.rom := rfl
@[simp] theorem State.drawn_cartRam : (s.drawn).cartRam = s.cartRam := rfl
@[simp] theorem State.drawn_nram : (s.drawn).nram = s.nram := rfl
@[simp] theorem State.drawn_cart : (s.drawn).cart = s.cart := rfl
@[simp] theorem State.drawn_params : (s.drawn).params = s.params := rfl
@[simp] theorem State.drawn_fault : (s.drawn).fault = s.fault := rfl
@[simp] theorem State.drawn_history : (s.drawn).history = s.history := rfl
@[simp] theorem State.drawn_opcodeAddr : (s.drawn).opcodeAddr = s.opcodeAddr := rfl
@[simp] theorem State.drawn_draws : (s.drawn).draws = s.draws + 1 := rfl
@[simp] theorem State.drawn_schedule : (s.drawn).schedule = s.schedule := rfl

/-! ## raised -/

@[simp] theorem State.raised_regs (k : FaultInfo) : (s.raised k).regs = s.regs := rfl
@[simp] theorem State.raised_ime (k : FaultInfo) : (s.raised k).ime = s.ime := rfl
@[simp] theorem State.raised_eiPending (k : FaultInfo) : (s.raised k).eiPending = s.eiPending := rfl
@[simp] theorem State.raised_mode (k : FaultInfo) : (s.raised k).mode = .faulted := rfl
@[simp] theorem State.raised_haltBug (k : FaultInfo) : (s.raised k).haltBug = s.haltBug := rfl
@[simp] theorem State.raised_cycles (k : FaultInfo) : (s.raised k).cycles = s.cycles := rfl
@[simp] theorem State.raised_ie (k : FaultInfo) : (s.raised k).ie = s.ie := rfl
@[simp] theorem State.raised_iflag (k : FaultInfo) : (s.raised k).iflag = s.iflag := rfl
@[simp] theorem State.raised_dmaReg (k : FaultInfo) : (s.raised k).dmaReg = s.dmaReg := rfl
@[simp] theorem State.raised_dma (k : FaultInfo) : (s.raised k).dma = s.dma := rfl
@[simp] theorem State.raised_svbk (k : FaultInfo) : (s.raised k).svbk = s.svbk := rfl
@[simp] theorem State.raised_wram (k : FaultInfo) : (s.raised k).wram = s.wram := rfl
@[simp] theorem State.raised_hram (k : FaultInfo) : (s.raised k).hram = s.hram := rfl
@[simp] theorem State.raised_vram (k : FaultInfo) : (s.raised k).vram = s.vram := rfl
@[simp] theorem State.raised_oam (k : FaultInfo) : (s.raised k).oam = s.oam := rfl
@[simp] theorem State.raised_rom (k : FaultInfo) : (s.raised k).rom = s.rom := rfl
@[simp] theorem State.raised_cartRam (k : FaultInfo) : (s.raised k).cartRam = s.cartRam := rfl
@[simp] theorem State.raised_nram (k : FaultInfo) : (s.raised k).nram = s.nram := rfl
@[simp] theorem State.raised_cart (k : FaultInfo) : (s.raised k).cart = s.cart := rfl
@[simp] theorem State.raised_params (k : FaultInfo) : (s.raised k).params = s.params := rfl
@[simp] theorem State.raised_fault (k : FaultInfo) : (s.raised k).fault = some k := rfl
@[simp] theorem State.raised_history (k : FaultInfo) : (s.raised k).history = s.history := rfl
@[simp] theorem State.raised_opcodeAddr (k : FaultInfo) : (s.raised k).opcodeAddr = s.opcodeAddr := rfl
@[simp] theorem State.raised_draws (k : FaultInfo) : (s.raised k).draws = s.draws := rfl
@[simp] theorem State.raised_schedule (k : FaultInfo) : (s.raised k).schedule = s.schedule := rfl

/-! ## awake -/

@[simp] theorem State.awake_regs : (s.awake).regs = s.regs := rfl
@[simp] theorem State.awake_ime : (s.awake).ime = s.ime := rfl
@[simp] theorem State.awake_eiPending : (s.awake).eiPending = s.eiPending := rfl
@[simp] theorem State.awake_mode : (s.awake).mode = .running := rfl
@[simp] theorem State.awake_haltBug : (s.awake).haltBug = s.haltBug := rfl
@[simp] theorem State.awake_cycles : (s.awake).cycles = s.cycles := rfl
@[simp] theorem State.awake_ie : (s.awake).ie = s.ie := rfl
@[simp] theorem State.awake_iflag : (s.awake).iflag = s.iflag := rfl
@[simp] theorem State.awake_dmaReg : (s.awake).dmaReg = s.dmaReg := rfl
@[simp] theorem State.awake_dma : (s.awake).dma = s.dma := rfl
@[simp] theorem State.awake_svbk : (s.awake).svbk = s.svbk := rfl
@[simp] theorem State.awake_wram : (s.awake).wram = s.wram := rfl
@[simp] theorem State.awake_hram : (s.awake).hram = s.hram := rfl
@[simp] theorem State.awake_vram : (s.awake).vram = s.vram := rfl
@[simp] theorem State.awake_oam : (s.awake).oam = s.oam := rfl
@[simp] theorem State.awake_rom : (s.awake).rom = s.rom := rfl
@[simp] theorem State.awake_cartRam : (s.awake).cartRam = s.cartRam := rfl
@[simp] theorem State.awake_nram : (s.awake).nram = s.nram := rfl
@[simp] theorem State.awake_cart : (s.awake).cart = s.cart := rfl
@[simp] theorem State.awake_params : (s.awake).params = s.params := rfl
@[simp] theorem State.awake_fault : (s.awake).fault = s.fault := rfl
@[simp] theorem State.awake_history : (s.awake).history = s.history := rfl
@[simp] theorem State.awake_opcodeAddr : (s.awake).opcodeAddr = s.opcodeAddr := rfl
@[simp] theorem State.awake_draws : (s.awake).draws = s.draws := rfl
@[simp] theorem State.awake_schedule : (s.awake).schedule = s.schedule := rfl

/-! ## invalid -/

@[simp] theorem State.invalid_regs (k : InvalidKind) (a : Addr) : (s.invalid k a).regs = s.regs := rfl
@[simp] theorem State.invalid_ime (k : InvalidKind) (a : Addr) : (s.invalid k a).ime = s.ime := rfl
@[simp] theorem State.invalid_eiPending (k : InvalidKind) (a : Addr) : (s.invalid k a).eiPending = s.eiPending := rfl
@[simp] theorem State.invalid_mode (k : InvalidKind) (a : Addr) : (s.invalid k a).mode = s.mode := rfl
@[simp] theorem State.invalid_haltBug (k : InvalidKind) (a : Addr) : (s.invalid k a).haltBug = s.haltBug := rfl
@[simp] theorem State.invalid_cycles (k : InvalidKind) (a : Addr) : (s.invalid k a).cycles = s.cycles := rfl
@[simp] theorem State.invalid_ie (k : InvalidKind) (a : Addr) : (s.invalid k a).ie = s.ie := rfl
@[simp] theorem State.invalid_iflag (k : InvalidKind) (a : Addr) : (s.invalid k a).iflag = s.iflag := rfl
@[simp] theorem State.invalid_dmaReg (k : InvalidKind) (a : Addr) : (s.invalid k a).dmaReg = s.dmaReg := rfl
@[simp] theorem State.invalid_dma (k : InvalidKind) (a : Addr) : (s.invalid k a).dma = s.dma := rfl
@[simp] theorem State.invalid_svbk (k : InvalidKind) (a : Addr) : (s.invalid k a).svbk = s.svbk := rfl
@[simp] theorem State.invalid_wram (k : InvalidKind) (a : Addr) : (s.invalid k a).wram = s.wram := rfl
@[simp] theorem State.invalid_hram (k : InvalidKind) (a : Addr) : (s.invalid k a).hram = s.hram := rfl
@[simp] theorem State.invalid_vram (k : InvalidKind) (a : Addr) : (s.invalid k a).vram = s.vram := rfl
@[simp] theorem State.invalid_oam (k : InvalidKind) (a : Addr) : (s.invalid k a).oam = s.oam := rfl
@[simp] theorem State.invalid_rom (k : InvalidKind) (a : Addr) : (s.invalid k a).rom = s.rom := rfl
@[simp] theorem State.invalid_cartRam (k : InvalidKind) (a : Addr) : (s.invalid k a).cartRam = s.cartRam := rfl
@[simp] theorem State.invalid_nram (k : InvalidKind) (a : Addr) : (s.invalid k a).nram = s.nram := rfl
@[simp] theorem State.invalid_cart (k : InvalidKind) (a : Addr) : (s.invalid k a).cart = s.cart := rfl
@[simp] theorem State.invalid_params (k : InvalidKind) (a : Addr) : (s.invalid k a).params = s.params := rfl
@[simp] theorem State.invalid_fault (k : InvalidKind) (a : Addr) : (s.invalid k a).fault = s.fault := rfl
@[simp] theorem State.invalid_history (k : InvalidKind) (a : Addr) : (s.invalid k a).history = s.history ++ [.invalidAccess k a] := rfl
@[simp] theorem State.invalid_opcodeAddr (k : InvalidKind) (a : Addr) : (s.invalid k a).opcodeAddr = s.opcodeAddr := rfl
@[simp] theorem State.invalid_draws (k : InvalidKind) (a : Addr) : (s.invalid k a).draws = s.draws := rfl
@[simp] theorem State.invalid_schedule (k : InvalidKind) (a : Addr) : (s.invalid k a).schedule = s.schedule := rfl

/-! ## writeMbc -/

@[simp] theorem State.writeMbc_regs (a : Addr) (v : Byte) : (s.writeMbc a v).regs = s.regs := rfl
@[simp] theorem State.writeMbc_ime (a : Addr) (v : Byte) : (s.writeMbc a v).ime = s.ime := rfl
@[simp] theorem State.writeMbc_eiPending (a : Addr) (v : Byte) : (s.writeMbc a v).eiPending = s.eiPending := rfl
@[simp] theorem State.writeMbc_mode (a : Addr) (v : Byte) : (s.writeMbc a v).mode = s.mode := rfl
@[simp] theorem State.writeMbc_haltBug (a : Addr) (v : Byte) : (s.writeMbc a v).haltBug = s.haltBug := rfl
@[simp] theorem State.writeMbc_cycles (a : Addr) (v : Byte) : (s.writeMbc a v).cycles = s.cycles := rfl
@[simp] theorem State.writeMbc_ie (a : Addr) (v : Byte) : (s.writeMbc a v).ie = s.ie := rfl
@[simp] theorem State.writeMbc_iflag (a : Addr) (v : Byte) : (s.writeMbc a v).iflag = s.iflag := rfl
@[simp] theorem State.writeMbc_dmaReg (a : Addr) (v : Byte) : (s.writeMbc a v).dmaReg = s.dmaReg := rfl
@[simp] theorem State.writeMbc_dma (a : Addr) (v : Byte) : (s.writeMbc a v).dma = s.dma := rfl
@[simp] theorem State.writeMbc_svbk (a : Addr) (v : Byte) : (s.writeMbc a v).svbk = s.svbk := rfl
@[simp] theorem State.writeMbc_wram (a : Addr) (v : Byte) : (s.writeMbc a v).wram = s.wram := rfl
@[simp] theorem State.writeMbc_hram (a : Addr) (v : Byte) : (s.writeMbc a v).hram = s.hram := rfl
@[simp] theorem State.writeMbc_vram (a : Addr) (v : Byte) : (s.writeMbc a v).vram = s.vram := rfl
@[simp] theorem State.writeMbc_oam (a : Addr) (v : Byte) : (s.writeMbc a v).oam = s.oam := rfl
@[simp] theorem State.writeMbc_rom (a : Addr) (v : Byte) : (s.writeMbc a v).rom = s.rom := rfl
@[simp] theorem State.writeMbc_cartRam (a : Addr) (v : Byte) : (s.writeMbc a v).cartRam = s.cartRam := rfl
@[simp] theorem State.writeMbc_nram (a : Addr) (v : Byte) : (s.writeMbc a v).nram = s.nram := rfl
@[simp] theorem State.writeMbc_cart (a : Addr) (v : Byte) : (s.writeMbc a v).cart = s.cart.writeReg a.toNat v := rfl
@[simp] theorem State.writeMbc_params (a : Addr) (v : Byte) : (s.writeMbc a v).params = s.params := rfl
@[simp] theorem State.writeMbc_fault (a : Addr) (v : Byte) : (s.writeMbc a v).fault = s.fault := rfl
@[simp] theorem State.writeMbc_history (a : Addr) (v : Byte) : (s.writeMbc a v).history = s.history ++ s.cart.rumbleEvents a.toNat v := rfl
@[simp] theorem State.writeMbc_opcodeAddr (a : Addr) (v : Byte) : (s.writeMbc a v).opcodeAddr = s.opcodeAddr := rfl
@[simp] theorem State.writeMbc_draws (a : Addr) (v : Byte) : (s.writeMbc a v).draws = s.draws := rfl
@[simp] theorem State.writeMbc_schedule (a : Addr) (v : Byte) : (s.writeMbc a v).schedule = s.schedule := rfl

/-! ## dmaStore -/

@[simp] theorem State.dmaStore_regs (v : Byte) : (s.dmaStore v).regs = s.regs := rfl
@[simp] theorem State.dmaStore_ime (v : Byte) : (s.dmaStore v).ime = s.ime := rfl
@[simp] theorem State.dmaStore_eiPending (v : Byte) : (s.dmaStore v).eiPending = s.eiPending := rfl
@[simp] theorem State.dmaStore_mode (v : Byte) : (s.dmaStore v).mode = s.mode := rfl
@[simp] theorem State.dmaStore_haltBug (v : Byte) : (s.dmaStore v).haltBug = s.haltBug := rfl
@[simp] theorem State.dmaStore_cycles (v : Byte) : (s.dmaStore v).cycles = s.cycles := rfl
@[simp] theorem State.dmaStore_ie (v : Byte) : (s.dmaStore v).ie = s.ie := rfl
@[simp] theorem State.dmaStore_iflag (v : Byte) : (s.dmaStore v).iflag = s.iflag := rfl
@[simp] theorem State.dmaStore_dmaReg (v : Byte) : (s.dmaStore v).dmaReg = s.dmaReg := rfl
@[simp] theorem State.dmaStore_dma (v : Byte) : (s.dmaStore v).dma = { s.dma with count := s.dma.count + 1, active := s.dma.count + 1 != dmaTransferSize } := rfl
@[simp] theorem State.dmaStore_svbk (v : Byte) : (s.dmaStore v).svbk = s.svbk := rfl
@[simp] theorem State.dmaStore_wram (v : Byte) : (s.dmaStore v).wram = s.wram := rfl
@[simp] theorem State.dmaStore_hram (v : Byte) : (s.dmaStore v).hram = s.hram := rfl
@[simp] theorem State.dmaStore_vram (v : Byte) : (s.dmaStore v).vram = s.vram := rfl
@[simp] theorem State.dmaStore_oam (v : Byte) : (s.dmaStore v).oam = s.oam.write s.dma.count v := rfl
@[simp] theorem State.dmaStore_rom (v : Byte) : (s.dmaStore v).rom = s.rom := rfl
@[simp] theorem State.dmaStore_cartRam (v : Byte) : (s.dmaStore v).cartRam = s.cartRam := rfl
@[simp] theorem State.dmaStore_nram (v : Byte) : (s.dmaStore v).nram = s.nram := rfl
@[simp] theorem State.dmaStore_cart (v : Byte) : (s.dmaStore v).cart = s.cart := rfl
@[simp] theorem State.dmaStore_params (v : Byte) : (s.dmaStore v).params = s.params := rfl
@[simp] theorem State.dmaStore_fault (v : Byte) : (s.dmaStore v).fault = s.fault := rfl
@[simp] theorem State.dmaStore_history (v : Byte) : (s.dmaStore v).history = s.history := rfl
@[simp] theorem State.dmaStore_opcodeAddr (v : Byte) : (s.dmaStore v).opcodeAddr = s.opcodeAddr := rfl
@[simp] theorem State.dmaStore_draws (v : Byte) : (s.dmaStore v).draws = s.draws := rfl
@[simp] theorem State.dmaStore_schedule (v : Byte) : (s.dmaStore v).schedule = s.schedule := rfl

end Sys2Proof.Machine
end

