-- ==== Sys2Proof/Laws/Bus.lean ====
section
/-! SUPPORT. What a bus transaction can do (spec 20_memory.md R201, R202): one lemma each for the bus's and the CPU's
read and write, their completion, and the frame of a write to plain storage. -/

namespace Sys2Proof.Machine

/-! ## Reading -/

/-- A bus read gives a byte and at most an event and a draw, or raises a fault in the state it found. -/
theorem busRead_cases (a : Addr) (s : State) :
    (∃ v t, busRead a s = .ok v t ∧ s.onlyReads t) ∨ (∃ k, busRead a s = .stop (s.raised k)) := by
  unfold busRead
  split
  · exact .inl ⟨_, _, rfl, rfl⟩
  · unfold videoRead draw; split <;> exact .inl ⟨_, _, rfl, rfl⟩
  · unfold extRead; split
    · exact .inl ⟨_, _, rfl, rfl⟩
    · exact .inl ⟨_, _, rfl, rfl⟩
    · exact .inl ⟨_, _, rfl, rfl⟩
    · exact .inl ⟨_, _, rfl, rfl⟩
    · exact .inl ⟨_, _, rfl, rfl⟩
  · exact .inl ⟨_, _, rfl, rfl⟩
  · exact .inr ⟨_, rfl⟩
  · unfold videoRead draw; split <;> exact .inl ⟨_, _, rfl, rfl⟩
  · unfold prohibitedRead; split
    · exact .inl ⟨_, _, rfl, rfl⟩
    · exact .inl ⟨_, _, rfl, rfl⟩
    · exact .inr ⟨_, rfl⟩
  all_goals exact .inl ⟨_, _, rfl, rfl⟩

/-- A CPU read gives a byte and at most an event and a draw, or raises a fault in the state it found. -/
theorem memRead_cases (a : Addr) (s : State) :
    (∃ v t, memRead a s = .ok v t ∧ s.onlyReads t) ∨ (∃ k, memRead a s = .stop (s.raised k)) := by
  unfold memRead
  split
  · exact .inr ⟨_, rfl⟩
  · exact busRead_cases a s

theorem memRead_onlyReads {a : Addr} {s t : State} {v : Byte} (h : memRead a s = .ok v t) : s.onlyReads t := by
  rcases memRead_cases a s with ⟨w, u, e, hu⟩ | ⟨k, e⟩ <;> rw [e] at h
  · cases h; exact hu
  · cases h

/-- Where the core stores the answer, a bus read gives that byte and changes nothing. -/
theorem busRead_of_peek {a : Addr} {s : State} {v : Byte} (h : s.peek a = some v) : busRead a s = .ok v s := by
  unfold State.peek at h
  unfold busRead
  split at h <;> simp_all [videoRead, extRead]

theorem conflicts_iff (s : State) (a : Addr) : s.dmaConflict a = true ↔ s.conflicts a := by
  simp only [State.dmaConflict, inHram, State.conflicts, Bool.and_eq_true, Bool.not_eq_true', Bool.and_eq_false_iff,
    decide_eq_false_iff_not]
  constructor
  · rintro ⟨h, h' | h'⟩ <;> exact ⟨h, fun h => h' (by first | exact h.1 | exact h.2)⟩
  · rintro ⟨h, h'⟩
    refine ⟨h, ?_⟩
    by_cases h1 : 0xFF80 ≤ a.toNat
    · exact .inr fun h2 => h' ⟨h1, h2⟩
    · exact .inl h1

theorem memRead_of_not_conflicts {a : Addr} {s : State} (h : ¬s.conflicts a) : memRead a s = busRead a s := by
  unfold memRead
  rw [if_neg fun hc => h ((conflicts_iff s a).1 hc)]

theorem memWrite_of_not_conflicts {a : Addr} {v : Byte} {s : State} (h : ¬s.conflicts a) :
    memWrite a v s = busWrite a v s := by
  unfold memWrite
  rw [if_neg fun hc => h ((conflicts_iff s a).1 hc)]

/-! ## Which target an address has -/

/-- The address decoder, range by range (R203). -/
theorem locate_cases (s : State) (a : Addr) :
    (a.toNat < 0x8000 ∧ s.locate a = .rom (s.cart.romOffset a.toNat))
    ∨ (0x8000 ≤ a.toNat ∧ a.toNat < 0xA000 ∧ s.locate a = .vram (a.toNat - 0x8000))
    ∨ (0xA000 ≤ a.toNat ∧ a.toNat < 0xC000 ∧ s.locate a = .ext (s.cart.ramTarget (a.toNat - 0xA000)))
    ∨ (0xC000 ≤ a.toNat ∧ a.toNat < 0xE000 ∧ s.locate a = .wram (s.wramOffset (a.toNat - 0xC000)))
    ∨ (0xE000 ≤ a.toNat ∧ a.toNat < 0xFE00 ∧ s.params.echoPolicy = .mirror
        ∧ s.locate a = .wram (s.wramOffset (a.toNat - 0xE000)))
    ∨ (0xE000 ≤ a.toNat ∧ a.toNat < 0xFE00 ∧ s.params.echoPolicy = .fault ∧ s.locate a = .echoFault)
    ∨ (0xFE00 ≤ a.toNat ∧ a.toNat < 0xFEA0 ∧ s.locate a = .oam (a.toNat - 0xFE00))
    ∨ (0xFEA0 ≤ a.toNat ∧ a.toNat < 0xFF00 ∧ s.locate a = .prohibited)
    ∨ (a.toNat = 0xFF0F ∧ s.locate a = .iflag)
    ∨ (a.toNat = 0xFF46 ∧ s.locate a = .dma)
    ∨ (a.toNat = 0xFF70 ∧ s.params.cgbMode = true ∧ s.locate a = .svbk)
    ∨ (0xFF00 ≤ a.toNat ∧ a.toNat < 0xFF80 ∧ a.toNat ≠ 0xFF0F ∧ a.toNat ≠ 0xFF46
        ∧ ¬(a.toNat = 0xFF70 ∧ s.params.cgbMode = true) ∧ s.locate a = .io)
    ∨ (0xFF80 ≤ a.toNat ∧ a.toNat < 0xFFFF ∧ s.locate a = .hram (a.toNat - 0xFF80))
    ∨ (a.toNat = 0xFFFF ∧ s.locate a = .ie) := by
  have hb : a.toNat < 0x10000 := a.isLt
  unfold State.locate
  generalize a.toNat = n at *
  dsimp only
  by_cases h1 : n < 0x8000
  · exact .inl ⟨h1, if_pos h1⟩
  rw [if_neg h1]; right
  by_cases h2 : n < 0xA000
  · exact .inl ⟨Nat.le_of_not_lt h1, h2, if_pos h2⟩
  rw [if_neg h2]; right
  by_cases h3 : n < 0xC000
  · exact .inl ⟨Nat.le_of_not_lt h2, h3, if_pos h3⟩
  rw [if_neg h3]; right
  by_cases h4 : n < 0xE000
  · exact .inl ⟨Nat.le_of_not_lt h3, h4, if_pos h4⟩
  rw [if_neg h4]; right
  by_cases h5 : n < 0xFE00
  · rw [if_pos h5]
    cases he : s.params.echoPolicy
    · exact .inl ⟨Nat.le_of_not_lt h4, h5, rfl, rfl⟩
    · exact .inr (.inl ⟨Nat.le_of_not_lt h4, h5, rfl, rfl⟩)
  rw [if_neg h5]; right; right
  by_cases h6 : n < 0xFEA0
  · exact .inl ⟨Nat.le_of_not_lt h5, h6, if_pos h6⟩
  rw [if_neg h6]; right
  by_cases h7 : n < 0xFF00
  · exact .inl ⟨Nat.le_of_not_lt h6, h7, if_pos h7⟩
  rw [if_neg h7]; right
  by_cases h8 : n = 0xFF0F
  · exact .inl ⟨h8, if_pos h8⟩
  rw [if_neg h8]; right
  by_cases h9 : n = 0xFF46
  · exact .inl ⟨h9, if_pos h9⟩
  rw [if_neg h9]; right
  by_cases h10 : n = 0xFF70 ∧ s.params.cgbMode = true
  · exact .inl ⟨h10.1, h10.2, if_pos h10⟩
  rw [if_neg h10]; right
  by_cases h11 : n < 0xFF80
  · exact .inl ⟨Nat.le_of_not_lt h7, h11, h8, h9, h10, if_pos h11⟩
  rw [if_neg h11]; right
  by_cases h12 : n < 0xFFFF
  · exact .inl ⟨Nat.le_of_not_lt h11, h12, if_pos h12⟩
  rw [if_neg h12]; right
  exact ⟨by omega, rfl⟩

theorem locate_of_rom {s : State} {a : Addr} (h : a.toNat < 0x8000) :
    s.locate a = .rom (s.cart.romOffset a.toNat) := by
  rcases locate_cases s a with ⟨h1, e⟩ | ⟨h1, h2, e⟩ | ⟨h1, h2, e⟩ | ⟨h1, h2, e⟩ | ⟨h1, h2, h3, e⟩ | ⟨h1, h2, h3, e⟩
    | ⟨h1, h2, e⟩ | ⟨h1, h2, e⟩ | ⟨h1, e⟩ | ⟨h1, e⟩ | ⟨h1, h2, e⟩ | ⟨h1, h2, h3, h4, h5, e⟩ | ⟨h1, h2, e⟩ | ⟨h1, e⟩
  case inl => exact e
  all_goals exact absurd h (by omega)

theorem locate_of_vram {s : State} {a : Addr} (h : 0x8000 ≤ a.toNat) (h' : a.toNat < 0xA000) :
    s.locate a = .vram (a.toNat - 0x8000) := by
  rcases locate_cases s a with ⟨h1, e⟩ | ⟨h1, h2, e⟩ | ⟨h1, h2, e⟩ | ⟨h1, h2, e⟩ | ⟨h1, h2, h3, e⟩ | ⟨h1, h2, h3, e⟩
    | ⟨h1, h2, e⟩ | ⟨h1, h2, e⟩ | ⟨h1, e⟩ | ⟨h1, e⟩ | ⟨h1, h2, e⟩ | ⟨h1, h2, h3, h4, h5, e⟩ | ⟨h1, h2, e⟩ | ⟨h1, e⟩
  case inr.inl => exact e
  all_goals exact absurd h (by omega)

theorem locate_of_ext {s : State} {a : Addr} (h : 0xA000 ≤ a.toNat) (h' : a.toNat < 0xC000) :
    s.locate a = .ext (s.cart.ramTarget (a.toNat - 0xA000)) := by
  rcases locate_cases s a with ⟨h1, e⟩ | ⟨h1, h2, e⟩ | ⟨h1, h2, e⟩ | ⟨h1, h2, e⟩ | ⟨h1, h2, h3, e⟩ | ⟨h1, h2, h3, e⟩
    | ⟨h1, h2, e⟩ | ⟨h1, h2, e⟩ | ⟨h1, e⟩ | ⟨h1, e⟩ | ⟨h1, h2, e⟩ | ⟨h1, h2, h3, h4, h5, e⟩ | ⟨h1, h2, e⟩ | ⟨h1, e⟩
  case inr.inr.inl => exact e
  all_goals exact absurd h (by omega)

theorem locate_of_wram {s : State} {a : Addr} (h : 0xC000 ≤ a.toNat) (h' : a.toNat < 0xE000) :
    s.locate a = .wram (s.wramOffset (a.toNat - 0xC000)) := by
  rcases locate_cases s a with ⟨h1, e⟩ | ⟨h1, h2, e⟩ | ⟨h1, h2, e⟩ | ⟨h1, h2, e⟩ | ⟨h1, h2, h3, e⟩ | ⟨h1, h2, h3, e⟩
    | ⟨h1, h2, e⟩ | ⟨h1, h2, e⟩ | ⟨h1, e⟩ | ⟨h1, e⟩ | ⟨h1, h2, e⟩ | ⟨h1, h2, h3, h4, h5, e⟩ | ⟨h1, h2, e⟩ | ⟨h1, e⟩
  case inr.inr.inr.inl => exact e
  all_goals exact absurd h (by omega)

theorem locate_of_echo {s : State} {a : Addr} (h : 0xE000 ≤ a.toNat) (h' : a.toNat < 0xFE00)
    (hp : s.params.echoPolicy = .mirror) :
    s.locate a = .wram (s.wramOffset (a.toNat - 0xE000)) := by
  rcases locate_cases s a with ⟨h1, e⟩ | ⟨h1, h2, e⟩ | ⟨h1, h2, e⟩ | ⟨h1, h2, e⟩ | ⟨h1, h2, h3, e⟩ | ⟨h1, h2, h3, e⟩
    | ⟨h1, h2, e⟩ | ⟨h1, h2, e⟩ | ⟨h1, e⟩ | ⟨h1, e⟩ | ⟨h1, h2, e⟩ | ⟨h1, h2, h3, h4, h5, e⟩ | ⟨h1, h2, e⟩ | ⟨h1, e⟩
  case inr.inr.inr.inr.inl => exact e
  case inr.inr.inr.inr.inr.inl => rw [hp] at h3; cases h3
  all_goals exact absurd h (by omega)

theorem locate_of_oam {s : State} {a : Addr} (h : 0xFE00 ≤ a.toNat) (h' : a.toNat < 0xFEA0) :
    s.locate a = .oam (a.toNat - 0xFE00) := by
  rcases locate_cases s a with ⟨h1, e⟩ | ⟨h1, h2, e⟩ | ⟨h1, h2, e⟩ | ⟨h1, h2, e⟩ | ⟨h1, h2, h3, e⟩ | ⟨h1, h2, h3, e⟩
    | ⟨h1, h2, e⟩ | ⟨h1, h2, e⟩ | ⟨h1, e⟩ | ⟨h1, e⟩ | ⟨h1, h2, e⟩ | ⟨h1, h2, h3, h4, h5, e⟩ | ⟨h1, h2, e⟩ | ⟨h1, e⟩
  case inr.inr.inr.inr.inr.inr.inl => exact e
  all_goals exact absurd h (by omega)

theorem locate_of_io {s : State} {a : Addr} (h : 0xFF00 ≤ a.toNat) (h' : a.toNat < 0xFF80)
    (hi : a.toNat ≠ 0xFF0F) (hd : a.toNat ≠ 0xFF46) (hv : ¬(a.toNat = 0xFF70 ∧ s.params.cgbMode = true)) :
    s.locate a = .io := by
  rcases locate_cases s a with ⟨h1, e⟩ | ⟨h1, h2, e⟩ | ⟨h1, h2, e⟩ | ⟨h1, h2, e⟩ | ⟨h1, h2, h3, e⟩ | ⟨h1, h2, h3, e⟩
    | ⟨h1, h2, e⟩ | ⟨h1, h2, e⟩ | ⟨h1, e⟩ | ⟨h1, e⟩ | ⟨h1, h2, e⟩ | ⟨h1, h2, h3, h4, h5, e⟩ | ⟨h1, h2, e⟩ | ⟨h1, e⟩
  case inr.inr.inr.inr.inr.inr.inr.inr.inr.inr.inr.inl => exact e
  case inr.inr.inr.inr.inr.inr.inr.inr.inr.inr.inl => exact absurd ⟨h1, h2⟩ hv
  all_goals exact absurd h (by omega)

theorem locate_of_hram {s : State} {a : Addr} (h : 0xFF80 ≤ a.toNat) (h' : a.toNat < 0xFFFF) :
    s.locate a = .hram (a.toNat - 0xFF80) := by
  rcases locate_cases s a with ⟨h1, e⟩ | ⟨h1, h2, e⟩ | ⟨h1, h2, e⟩ | ⟨h1, h2, e⟩ | ⟨h1, h2, h3, e⟩ | ⟨h1, h2, h3, e⟩
    | ⟨h1, h2, e⟩ | ⟨h1, h2, e⟩ | ⟨h1, e⟩ | ⟨h1, e⟩ | ⟨h1, h2, e⟩ | ⟨h1, h2, h3, h4, h5, e⟩ | ⟨h1, h2, e⟩ | ⟨h1, e⟩
  case inr.inr.inr.inr.inr.inr.inr.inr.inr.inr.inr.inr.inl => exact e
  all_goals exact absurd h (by omega)

theorem locate_echoFault_iff (s : State) (a : Addr) :
    s.locate a = .echoFault ↔ s.params.echoPolicy = .fault ∧ 0xE000 ≤ a.toNat ∧ a.toNat ≤ 0xFDFF := by
  rcases locate_cases s a with ⟨h1, e⟩ | ⟨h1, h2, e⟩ | ⟨h1, h2, e⟩ | ⟨h1, h2, e⟩ | ⟨h1, h2, h3, e⟩ | ⟨h1, h2, h3, e⟩
    | ⟨h1, h2, e⟩ | ⟨h1, h2, e⟩ | ⟨h1, e⟩ | ⟨h1, e⟩ | ⟨h1, h2, e⟩ | ⟨h1, h2, h3, h4, h5, e⟩ | ⟨h1, h2, e⟩ | ⟨h1, e⟩
    <;> rw [e]
  case inr.inr.inr.inr.inl => exact iff_of_false (by intro h; cases h) fun h => by rw [h3] at h; cases h.1
  case inr.inr.inr.inr.inr.inl => exact iff_of_true rfl ⟨h3, h1, by omega⟩
  all_goals exact iff_of_false (by intro h; cases h) fun h => by omega

theorem locate_prohibited_iff (s : State) (a : Addr) :
    s.locate a = .prohibited ↔ 0xFEA0 ≤ a.toNat ∧ a.toNat ≤ 0xFEFF := by
  rcases locate_cases s a with ⟨h1, e⟩ | ⟨h1, h2, e⟩ | ⟨h1, h2, e⟩ | ⟨h1, h2, e⟩ | ⟨h1, h2, h3, e⟩ | ⟨h1, h2, h3, e⟩
    | ⟨h1, h2, e⟩ | ⟨h1, h2, e⟩ | ⟨h1, e⟩ | ⟨h1, e⟩ | ⟨h1, h2, e⟩ | ⟨h1, h2, h3, h4, h5, e⟩ | ⟨h1, h2, e⟩ | ⟨h1, e⟩
    <;> rw [e]
  case inr.inr.inr.inr.inr.inr.inr.inl => exact iff_of_true rfl ⟨h1, by omega⟩
  all_goals exact iff_of_false (by intro h; cases h) fun h => by omega

theorem locate_dma_iff (s : State) (a : Addr) : s.locate a = .dma ↔ a = 0xFF46 := by
  have ea : a = 0xFF46 ↔ a.toNat = 0xFF46 := by
    rw [← BitVec.toNat_inj]; rfl
  rw [ea]
  rcases locate_cases s a with ⟨h1, e⟩ | ⟨h1, h2, e⟩ | ⟨h1, h2, e⟩ | ⟨h1, h2, e⟩ | ⟨h1, h2, h3, e⟩ | ⟨h1, h2, h3, e⟩
    | ⟨h1, h2, e⟩ | ⟨h1, h2, e⟩ | ⟨h1, e⟩ | ⟨h1, e⟩ | ⟨h1, h2, e⟩ | ⟨h1, h2, h3, h4, h5, e⟩ | ⟨h1, h2, e⟩ | ⟨h1, e⟩
    <;> rw [e]
  case inr.inr.inr.inr.inr.inr.inr.inr.inr.inl => exact iff_of_true rfl h1
  all_goals exact iff_of_false (by intro h; cases h) fun h => by omega

theorem locate_rom_iff (s : State) (a : Addr) : (∃ off, s.locate a = .rom off) ↔ a.toNat < 0x8000 := by
  rcases locate_cases s a with ⟨h1, e⟩ | ⟨h1, h2, e⟩ | ⟨h1, h2, e⟩ | ⟨h1, h2, e⟩ | ⟨h1, h2, h3, e⟩ | ⟨h1, h2, h3, e⟩
    | ⟨h1, h2, e⟩ | ⟨h1, h2, e⟩ | ⟨h1, e⟩ | ⟨h1, e⟩ | ⟨h1, h2, e⟩ | ⟨h1, h2, h3, h4, h5, e⟩ | ⟨h1, h2, e⟩ | ⟨h1, e⟩
    <;> rw [e]
  case inl => exact iff_of_true ⟨_, rfl⟩ h1
  all_goals exact iff_of_false (by rintro ⟨_, h⟩; cases h) fun h => by omega

theorem locate_io_of_cgbRegister {s : State} {a : Addr} (h : cgbRegister a) : s.locate a = .io := by
  unfold cgbRegister at h
  rcases locate_cases s a with ⟨h1, e⟩ | ⟨h1, h2, e⟩ | ⟨h1, h2, e⟩ | ⟨h1, h2, e⟩ | ⟨h1, h2, h3, e⟩ | ⟨h1, h2, h3, e⟩
    | ⟨h1, h2, e⟩ | ⟨h1, h2, e⟩ | ⟨h1, e⟩ | ⟨h1, e⟩ | ⟨h1, h2, e⟩ | ⟨h1, h2, h3, h4, h5, e⟩ | ⟨h1, h2, e⟩ | ⟨h1, e⟩
  case inr.inr.inr.inr.inr.inr.inr.inr.inr.inr.inr.inl => exact e
  all_goals omega

theorem cgbUnmodelled_iff (a : Addr) : cgbUnmodelled a = true ↔ cgbRegister a := by
  simp [cgbUnmodelled, cgbRegister, or_assoc]

/-! ## The cartridge's windows -/

theorem busRead_rom {s : State} {a : Addr} (h : a.toNat < 0x8000) :
    busRead a s = .ok (s.rom.read (s.cart.romOffset a.toNat)) s := by
  unfold busRead; rw [locate_of_rom h]

theorem busWrite_rom {s : State} {a : Addr} (v : Byte) (h : a.toNat < 0x8000) :
    busWrite a v s = .ok () (s.writeMbc a v) := by
  unfold busWrite; rw [locate_of_rom h]

theorem busRead_ext {s : State} {a : Addr} (h : 0xA000 ≤ a.toNat) (h' : a.toNat < 0xC000) :
    busRead a s = extRead (s.cart.ramTarget (a.toNat - 0xA000)) a s := by
  unfold busRead; rw [locate_of_ext h h']

theorem busWrite_ext {s : State} {a : Addr} (v : Byte) (h : 0xA000 ≤ a.toNat) (h' : a.toNat < 0xC000) :
    busWrite a v s = .ok () (extWrite (s.cart.ramTarget (a.toNat - 0xA000)) a v s) := by
  unfold busWrite; rw [locate_of_ext h h']

/-- The fixed window of a cartridge with a controller. -/
theorem romOffset_fixed {c : Cart} {m : Mbc} {a : Nat} (hm : c.mbc = m) (hn : m ≠ .noMbc) (h : a < 0x4000) :
    c.romOffset a = (m.fixedBank % c.romBanks) * 0x4000 + a := by
  unfold Cart.romOffset
  rw [hm]
  cases m
  case noMbc => exact absurd rfl hn
  all_goals exact if_pos h

/-- The switchable window of a cartridge with a controller. -/
theorem romOffset_switch {c : Cart} {m : Mbc} {a : Nat} (hm : c.mbc = m) (hn : m ≠ .noMbc) (h : ¬a < 0x4000) :
    c.romOffset a = (m.switchBank % c.romBanks) * 0x4000 + (a - 0x4000) := by
  unfold Cart.romOffset
  rw [hm]
  cases m
  case noMbc => exact absurd rfl hn
  all_goals exact if_neg h

/-! ## Completion of a read -/

/-- A CPU read completes exactly where none of the spec's bus faults applies (R602). -/
theorem memRead_ok_iff (a : Addr) (s : State) :
    (∃ v t, memRead a s = .ok v t) ↔ ¬s.readFaults a := by
  by_cases hc : s.conflicts a
  · constructor
    · rintro ⟨v, t, h⟩
      unfold memRead at h
      rw [if_pos ((conflicts_iff s a).2 hc)] at h
      cases h
    · intro h; exact absurd (.inl hc) h
  · rw [memRead_of_not_conflicts hc]
    have he := locate_echoFault_iff s a
    have hp := locate_prohibited_iff s a
    unfold busRead
    split
    case h_5 hl => simp_all [raise, State.readFaults]
    case h_7 hl =>
      unfold prohibitedRead
      split <;> simp_all [raise, draw, State.readFaults]
    all_goals
      refine iff_of_true ?_ fun h => ?_
      · first
          | exact ⟨_, _, rfl⟩
          | (unfold videoRead draw; split <;> exact ⟨_, _, rfl⟩)
          | (unfold extRead; split <;> exact ⟨_, _, rfl⟩)
      · rcases h with h | h | h
        · exact hc h
        · have := he.2 h; simp_all
        · have := hp.2 h.2; simp_all

theorem memRead_ok {a : Addr} {s : State} (h : ¬s.readFaults a) :
    ∃ v t, memRead a s = .ok v t ∧ s.onlyReads t := by
  obtain ⟨v, t, e⟩ := (memRead_ok_iff a s).2 h
  exact ⟨v, t, e, memRead_onlyReads e⟩

/-! ## Writing -/

theorem onlyBus_refl (s : State) : s.onlyBus s := rfl

theorem writeReg_fixed (c : Cart) (a : Nat) (v : Byte) : c.writeReg a v = { c with mbc := (c.writeReg a v).mbc } := by
  unfold Cart.writeReg
  split <;> rfl

theorem rtcWrite_fixed (c : Cart) (r : RtcReg) (v : Byte) : c.rtcWrite r v = { c with mbc := (c.rtcWrite r v).mbc } := by
  unfold Cart.rtcWrite
  split <;> rfl

/-- A bus write changes at most what `onlyBus` names, or raises a fault; before `Unmodelled` of a DMA source page the
register has taken the byte (R653). -/
theorem busWrite_cases (a : Addr) (v : Byte) (s : State) :
    (∃ t, busWrite a v s = .ok () t ∧ s.onlyBus t)
    ∨ (∃ k, busWrite a v s = .stop (s.raised k))
    ∨ (∃ k, busWrite a v s = .stop (State.raised { s with dmaReg := v } k)) := by
  unfold busWrite
  split
  · refine .inl ⟨_, rfl, ?_⟩
    unfold State.onlyBus State.writeMbc
    dsimp only
    rw [writeReg_fixed]
  · refine .inl ⟨_, rfl, ?_⟩
    unfold State.videoDrawn; dsimp only; split <;> rfl
  · refine .inl ⟨_, rfl, ?_⟩
    unfold extWrite
    split
    · rfl
    · rfl
    · unfold State.onlyBus; dsimp only; rw [rtcWrite_fixed]
    · rfl
    · rfl
  · exact .inl ⟨_, rfl, rfl⟩
  · exact .inr (.inl ⟨_, rfl⟩)
  · refine .inl ⟨_, rfl, ?_⟩
    unfold State.videoDrawn; dsimp only; split <;> rfl
  · unfold prohibitedWrite; split
    · exact .inl ⟨_, rfl, rfl⟩
    · exact .inl ⟨_, rfl, rfl⟩
    · exact .inr (.inl ⟨_, rfl⟩)
  · exact .inl ⟨_, rfl, rfl⟩
  · unfold startDma; split
    · exact .inr (.inr ⟨_, rfl⟩)
    · exact .inl ⟨_, rfl, rfl⟩
  · exact .inl ⟨_, rfl, rfl⟩
  · unfold ioWrite; split
    · exact .inr (.inl ⟨_, rfl⟩)
    · exact .inl ⟨_, rfl, rfl⟩
  · exact .inl ⟨_, rfl, rfl⟩
  · exact .inl ⟨_, rfl, rfl⟩

theorem memWrite_onlyBus {a : Addr} {v : Byte} {s t : State} (h : memWrite a v s = .ok () t) : s.onlyBus t := by
  unfold memWrite at h
  split at h
  · cases h
  · rcases busWrite_cases a v s with ⟨u, e, hu⟩ | ⟨k, e⟩ | ⟨k, e⟩ <;> rw [e] at h
    · cases h; exact hu
    · cases h
    · cases h

/-- A CPU write completes exactly where none of the spec's faults of a write applies (R602). -/
theorem memWrite_ok_iff (a : Addr) (v : Byte) (s : State) :
    (∃ t, memWrite a v s = .ok () t) ↔ ¬s.writeFaults a v := by
  by_cases hc : s.conflicts a
  · constructor
    · rintro ⟨t, h⟩
      unfold memWrite at h
      rw [if_pos ((conflicts_iff s a).2 hc)] at h
      cases h
    · intro h; exact absurd (.inl (.inl hc)) h
  · rw [memWrite_of_not_conflicts hc]
    have he := locate_echoFault_iff s a
    have hp := locate_prohibited_iff s a
    have hd := locate_dma_iff s a
    have hu := cgbUnmodelled_iff a
    have hi : cgbRegister a → s.locate a = .io := locate_io_of_cgbRegister
    unfold busWrite
    split
    case h_5 hl => simp_all [raise, State.readFaults, State.writeFaults]
    case h_7 hl =>
      have hne : ¬cgbRegister a := fun h => by have := hi h; simp_all
      unfold prohibitedWrite
      split <;> simp_all [raise, State.readFaults, State.writeFaults]
    case h_9 hl =>
      have hne : ¬cgbRegister a := fun h => by have := hi h; simp_all
      unfold startDma
      split <;> simp_all [raise, State.readFaults, State.writeFaults]
    case h_11 hl =>
      have hne : ¬a = 0xFF46 := fun h => by have := hd.2 h; simp_all
      unfold ioWrite
      split
      · refine iff_of_false (by rintro ⟨t, h⟩; cases h) fun h => h (.inr (.inl ?_))
        simp_all
      · refine iff_of_true ⟨_, rfl⟩ ?_
        rintro ((h | h | h) | h | h)
        · exact hc h
        · have := he.2 h; simp_all
        · have := hp.2 h.2; simp_all
        · simp_all
        · exact hne h.1
    all_goals
      refine iff_of_true ⟨_, rfl⟩ ?_
      rintro ((h | h | h) | h | h)
      · exact hc h
      · have := he.2 h; simp_all
      · have := hp.2 h.2; simp_all
      · have := hi h.2; simp_all
      · have := hd.2 h.1; simp_all

theorem memWrite_ok {a : Addr} {v : Byte} {s : State} (h : ¬s.writeFaults a v) :
    ∃ t, memWrite a v s = .ok () t ∧ s.onlyBus t := by
  obtain ⟨t, e⟩ := (memWrite_ok_iff a v s).2 h
  exact ⟨t, e, memWrite_onlyBus e⟩

end Sys2Proof.Machine
end

