-- ==== Sys2Proof/Machine/EndOfRun.lean ====
section
/-! DEFINITION. The end of a run (spec 70_reset_and_hazards.md R712, R713; the host's `Stop` move,
60_exceptions.md R690). No step depends on it: the hardware goes on fetching. -/

namespace Sys2Proof.Machine

/-- A state is final for the launch input `END_PC` (R712); a faulted state never is (R713). -/
abbrev State.isFinal (s : State) (endPc : Addr) : Prop :=
  s.mode = .running ∧ s.fault = none ∧ s.regs.pc = endPc ∧ s.haltBug = false
  ∧ ¬(s.ime = true ∧ s.pending ≠ 0) ∧ s.dma.active = false

/-- The first final state between two CPU steps, while the environment still has these moves to make there: `s` as it
stands, or what one of the moves leaves. "The run stops there", so the moves after it stay on the schedule (R690,
R712). -/
def State.finalAmid (endPc : Addr) : List EnvMove → State → Option State
  | [], s => if s.isFinal endPc then some { s with schedule := [] :: s.schedule } else none
  | m :: ms, s =>
    if s.isFinal endPc then some { s with schedule := (m :: ms) :: s.schedule } else (m.apply s).finalAmid endPc ms

/-- The final state at this boundary, if there is one, before the CPU's step: the environment's moves come between
steps (R690), so a `Wake` that leaves the core running at `END_PC` ends the run before the next instruction. -/
def State.finalAtBoundary (s : State) (endPc : Addr) : Option State :=
  match s.schedule with
  | [] => if s.isFinal endPc then some s else none
  | moves :: rest => ({ s with schedule := rest }).finalAmid endPc moves

/-- How a run ends: in a final state (R712); by the host's `Stop` at a boundary whose states are not final (R690,
R712); in a faulted state, which is never final (R600, R713); or at a refused instruction. -/
inductive RunEnd where
  | final (s : State)
  | stopped (s : State)
  | faulted (s : State)
  | refused (r : Refusal)
  deriving DecidableEq, Repr

/-- The run from `s` to `END_PC`, which the host's `Stop` ends after `n` steps if nothing ended it before: "The run
stops there: no further step is taken" (R712). A run that idles ends by `Stop` alone (R713). -/
def runToEnd (endPc : Addr) : Nat → State → RunEnd
  | 0, s =>
    if s.mode = .faulted then .faulted s
    else match s.finalAtBoundary endPc with
      | some t => .final t
      | none => .stopped s
  | n + 1, s =>
    if s.mode = .faulted then .faulted s
    else match s.finalAtBoundary endPc with
      | some t => .final t
      | none =>
        match step s with
        | .next t => runToEnd endPc n t
        | .fault _ => .faulted s
        | .refused r => .refused r

end Sys2Proof.Machine
end

