-- ==== Sys2Proof/Laws/EndOfRun.lean ====
section
/-! SUPPORT. What the end of a run can be (spec 70_reset_and_hazards.md R712, R713): a run ends in a final state at the
first one it reaches, between the environment's moves too, and takes a step only where there is none. -/

namespace Sys2Proof.Machine

/-- "A faulted state ... is never final" (R713). -/
theorem not_isFinal_of_faulted {s : State} {endPc : Addr} (h : s.mode = .faulted) : ¬s.isFinal endPc :=
  fun hf => absurd (hf.1.symm.trans h) (by decide)

theorem finalAmid_isFinal {endPc : Addr} : ∀ (ms : List EnvMove) {s t : State},
    s.finalAmid endPc ms = some t → t.isFinal endPc
  | [], s, t, h => by
    unfold State.finalAmid at h
    split at h
    · cases h; assumption
    · cases h
  | m :: ms, s, t, h => by
    unfold State.finalAmid at h
    split at h
    · cases h; assumption
    · exact finalAmid_isFinal ms h

/-- The state in which a run ends at a boundary is final (R712). -/
theorem finalAtBoundary_isFinal {endPc : Addr} {s t : State} (h : s.finalAtBoundary endPc = some t) :
    t.isFinal endPc := by
  unfold State.finalAtBoundary at h
  split at h
  · split at h
    · cases h; assumption
    · cases h
  · exact finalAmid_isFinal _ h

/-- At a final state the run ends as it stands, whatever the environment would do next. -/
theorem finalAtBoundary_self {endPc : Addr} {s : State} (h : s.isFinal endPc) : s.finalAtBoundary endPc = some s := by
  unfold State.finalAtBoundary
  split
  · rw [if_pos h]
  · rename_i moves rest hs
    have h' : ({ s with schedule := rest } : State).isFinal endPc := h
    have hb : ({ s with schedule := moves :: rest } : State) = s := by rw [← hs]
    cases moves <;> unfold State.finalAmid <;> rw [if_pos h'] <;> exact congrArg some hb

theorem not_isFinal_of_finalAmid_none {endPc : Addr} : ∀ (ms : List EnvMove) {s : State},
    s.finalAmid endPc ms = none → ¬(ms.foldl EnvMove.apply s).isFinal endPc
  | [], s, h, hf => by
    unfold State.finalAmid at h
    rw [if_pos (show s.isFinal endPc from hf)] at h; cases h
  | m :: ms, s, h, hf => by
    unfold State.finalAmid at h
    split at h
    · cases h
    · exact not_isFinal_of_finalAmid_none ms h hf

/-- The CPU takes its step from a state that is not final, after the environment's moves and before them. -/
theorem not_isFinal_of_finalAtBoundary_none {endPc : Addr} {s : State} (h : s.finalAtBoundary endPc = none) :
    ¬s.isFinal endPc ∧ ¬s.takeEnv.isFinal endPc := by
  refine ⟨fun hf => absurd ((finalAtBoundary_self hf).symm.trans h) nofun, fun hf => ?_⟩
  unfold State.finalAtBoundary at h
  unfold State.takeEnv at hf
  split at h
  · rename_i hs; rw [hs] at hf; rw [if_pos hf] at h; cases h
  · rename_i moves rest hs; rw [hs] at hf; exact not_isFinal_of_finalAmid_none moves h hf

/-- "The run stops there: no further step is taken" (R712). -/
theorem runToEnd_of_isFinal {endPc : Addr} {s : State} (n : Nat) (h : s.isFinal endPc) :
    runToEnd endPc n s = .final s := by
  have hm : s.mode ≠ .faulted := fun hf => not_isFinal_of_faulted hf h
  cases n <;> unfold runToEnd <;> rw [if_neg hm, finalAtBoundary_self h]

/-- Whatever a run ends in as final is final (R712). -/
theorem isFinal_of_runToEnd {endPc : Addr} : ∀ (n : Nat) {s t : State},
    runToEnd endPc n s = .final t → t.isFinal endPc
  | 0, s, t, h => by
    unfold runToEnd at h
    split at h
    · cases h
    · split at h
      · cases h; exact finalAtBoundary_isFinal ‹_›
      · cases h
  | n + 1, s, t, h => by
    unfold runToEnd at h
    split at h
    · cases h
    · split at h
      · cases h; exact finalAtBoundary_isFinal ‹_›
      · split at h
        · exact isFinal_of_runToEnd n h
        · cases h
        · cases h

end Sys2Proof.Machine
end

