-- ==== Sys2Proof/Laws/Families.lean ====
section
/-! SUPPORT. The opcode table by family (spec 30_encoding.md R301, R307): what `exec` runs for each family, and the
case split over families that stands for the case split over all 512 constructors. -/

namespace Sys2Proof.Machine

/-! ## What `exec` runs -/

theorem exec_ldRR (dst src : R8) (s : State) : exec (.ldRR dst src) s = ldReg dst src s := by
  cases dst <;> cases src <;> rfl

theorem exec_ldRN (dst : R8) (n : Byte) (s : State) : exec (.ldRN dst n) s = ldImm dst n s := by
  cases dst <;> rfl

theorem exec_ldRIndHl (dst : R8) (s : State) : exec (.ldRIndHl dst) s = loadFrom dst s.regs.hl 2 s := by
  cases dst <;> rfl

theorem exec_ldIndHlR (src : R8) (s : State) : exec (.ldIndHlR src) s = storeTo s.regs.hl (s.regs.r8 src) 2 s := by
  cases src <;> rfl

theorem exec_aluO (op : AluOp) (o : Opd) (s : State) : exec (.aluO op o) s = aluOpd op o s := by
  cases o with
  | reg r => cases op <;> cases r <;> rfl
  | indHl => cases op <;> rfl

theorem exec_aluN (op : AluOp) (n : Byte) (s : State) : exec (.aluN op n) s = aluImm op n s := by
  cases op <;> rfl

theorem exec_incO (o : Opd) (s : State) : exec (.incO o) s = incOpd o s := by
  cases o with
  | reg r => cases r <;> rfl
  | indHl => rfl

theorem exec_decO (o : Opd) (s : State) : exec (.decO o) s = decOpd o s := by
  cases o with
  | reg r => cases r <;> rfl
  | indHl => rfl

theorem exec_ldPairN (p : Pair) (n : Addr) (s : State) : exec (.ldPairN p n) s = ldPairImm p n s := by
  cases p <;> rfl

theorem exec_incPair (p : Pair) (s : State) : exec (.incPair p) s = movePair p 1 s := by
  cases p <;> rfl

theorem exec_decPair (p : Pair) (s : State) : exec (.decPair p) s = movePair p (-1) s := by
  cases p <;> rfl

theorem exec_addHl (p : Pair) (s : State) : exec (.addHl p) s = addHlPair p s := by
  cases p <;> rfl

theorem exec_push (p : StackPair) (s : State) : exec (.push p) s = pushValue (s.regs.stackPair p) s := by
  cases p <;> rfl

theorem exec_pop (p : StackPair) (s : State) : exec (.pop p) s = popPair p s := by
  cases p <;> rfl

theorem exec_jpCc (cc : Cond) (n : Addr) (s : State) : exec (.jpCc cc n) s = jpIf cc n s := by
  cases cc <;> rfl

theorem exec_jrCc (cc : Cond) (e : Byte) (s : State) : exec (.jrCc cc e) s = jrIf cc e s := by
  cases cc <;> rfl

theorem exec_callCc (cc : Cond) (n : Addr) (s : State) : exec (.callCc cc n) s = callIf cc n s := by
  cases cc <;> rfl

theorem exec_retCc (cc : Cond) (s : State) : exec (.retCc cc) s = retIf cc s := by
  cases cc <;> rfl

theorem exec_rst (y : Fin 8) (s : State) : exec (.rst y) s = restart y.val s :=
  match y with
  | 0 => rfl
  | 1 => rfl
  | 2 => rfl
  | 3 => rfl
  | 4 => rfl
  | 5 => rfl
  | 6 => rfl
  | 7 => rfl

theorem exec_shiftO (op : ShiftOp) (o : Opd) (s : State) : exec (.shiftO op o) s = shiftOpd op o s := by
  cases o with
  | reg r => cases op <;> cases r <;> rfl
  | indHl => cases op <;> rfl

theorem exec_bitO (b : Fin 8) (o : Opd) (s : State) : exec (.bitO b o) s = bitOpd b o s :=
  match o with
  | .reg .b => match b with
    | 0 => rfl
    | 1 => rfl
    | 2 => rfl
    | 3 => rfl
    | 4 => rfl
    | 5 => rfl
    | 6 => rfl
    | 7 => rfl
  | .reg .c => match b with
    | 0 => rfl
    | 1 => rfl
    | 2 => rfl
    | 3 => rfl
    | 4 => rfl
    | 5 => rfl
    | 6 => rfl
    | 7 => rfl
  | .reg .d => match b with
    | 0 => rfl
    | 1 => rfl
    | 2 => rfl
    | 3 => rfl
    | 4 => rfl
    | 5 => rfl
    | 6 => rfl
    | 7 => rfl
  | .reg .e => match b with
    | 0 => rfl
    | 1 => rfl
    | 2 => rfl
    | 3 => rfl
    | 4 => rfl
    | 5 => rfl
    | 6 => rfl
    | 7 => rfl
  | .reg .h => match b with
    | 0 => rfl
    | 1 => rfl
    | 2 => rfl
    | 3 => rfl
    | 4 => rfl
    | 5 => rfl
    | 6 => rfl
    | 7 => rfl
  | .reg .l => match b with
    | 0 => rfl
    | 1 => rfl
    | 2 => rfl
    | 3 => rfl
    | 4 => rfl
    | 5 => rfl
    | 6 => rfl
    | 7 => rfl
  | .indHl => match b with
    | 0 => rfl
    | 1 => rfl
    | 2 => rfl
    | 3 => rfl
    | 4 => rfl
    | 5 => rfl
    | 6 => rfl
    | 7 => rfl
  | .reg .a => match b with
    | 0 => rfl
    | 1 => rfl
    | 2 => rfl
    | 3 => rfl
    | 4 => rfl
    | 5 => rfl
    | 6 => rfl
    | 7 => rfl

theorem exec_resO (b : Fin 8) (o : Opd) (s : State) : exec (.resO b o) s = resOpd b o s :=
  match o with
  | .reg .b => match b with
    | 0 => rfl
    | 1 => rfl
    | 2 => rfl
    | 3 => rfl
    | 4 => rfl
    | 5 => rfl
    | 6 => rfl
    | 7 => rfl
  | .reg .c => match b with
    | 0 => rfl
    | 1 => rfl
    | 2 => rfl
    | 3 => rfl
    | 4 => rfl
    | 5 => rfl
    | 6 => rfl
    | 7 => rfl
  | .reg .d => match b with
    | 0 => rfl
    | 1 => rfl
    | 2 => rfl
    | 3 => rfl
    | 4 => rfl
    | 5 => rfl
    | 6 => rfl
    | 7 => rfl
  | .reg .e => match b with
    | 0 => rfl
    | 1 => rfl
    | 2 => rfl
    | 3 => rfl
    | 4 => rfl
    | 5 => rfl
    | 6 => rfl
    | 7 => rfl
  | .reg .h => match b with
    | 0 => rfl
    | 1 => rfl
    | 2 => rfl
    | 3 => rfl
    | 4 => rfl
    | 5 => rfl
    | 6 => rfl
    | 7 => rfl
  | .reg .l => match b with
    | 0 => rfl
    | 1 => rfl
    | 2 => rfl
    | 3 => rfl
    | 4 => rfl
    | 5 => rfl
    | 6 => rfl
    | 7 => rfl
  | .indHl => match b with
    | 0 => rfl
    | 1 => rfl
    | 2 => rfl
    | 3 => rfl
    | 4 => rfl
    | 5 => rfl
    | 6 => rfl
    | 7 => rfl
  | .reg .a => match b with
    | 0 => rfl
    | 1 => rfl
    | 2 => rfl
    | 3 => rfl
    | 4 => rfl
    | 5 => rfl
    | 6 => rfl
    | 7 => rfl

theorem exec_setO (b : Fin 8) (o : Opd) (s : State) : exec (.setO b o) s = setOpd b o s :=
  match o with
  | .reg .b => match b with
    | 0 => rfl
    | 1 => rfl
    | 2 => rfl
    | 3 => rfl
    | 4 => rfl
    | 5 => rfl
    | 6 => rfl
    | 7 => rfl
  | .reg .c => match b with
    | 0 => rfl
    | 1 => rfl
    | 2 => rfl
    | 3 => rfl
    | 4 => rfl
    | 5 => rfl
    | 6 => rfl
    | 7 => rfl
  | .reg .d => match b with
    | 0 => rfl
    | 1 => rfl
    | 2 => rfl
    | 3 => rfl
    | 4 => rfl
    | 5 => rfl
    | 6 => rfl
    | 7 => rfl
  | .reg .e => match b with
    | 0 => rfl
    | 1 => rfl
    | 2 => rfl
    | 3 => rfl
    | 4 => rfl
    | 5 => rfl
    | 6 => rfl
    | 7 => rfl
  | .reg .h => match b with
    | 0 => rfl
    | 1 => rfl
    | 2 => rfl
    | 3 => rfl
    | 4 => rfl
    | 5 => rfl
    | 6 => rfl
    | 7 => rfl
  | .reg .l => match b with
    | 0 => rfl
    | 1 => rfl
    | 2 => rfl
    | 3 => rfl
    | 4 => rfl
    | 5 => rfl
    | 6 => rfl
    | 7 => rfl
  | .indHl => match b with
    | 0 => rfl
    | 1 => rfl
    | 2 => rfl
    | 3 => rfl
    | 4 => rfl
    | 5 => rfl
    | 6 => rfl
    | 7 => rfl
  | .reg .a => match b with
    | 0 => rfl
    | 1 => rfl
    | 2 => rfl
    | 3 => rfl
    | 4 => rfl
    | 5 => rfl
    | 6 => rfl
    | 7 => rfl

theorem exec_illegal {p : Byte × Instr} (h : p ∈ illegalOps) (s : State) : exec p.2 s = illegal p.1 s := by
  simp only [illegalOps, List.mem_cons, List.not_mem_nil, or_false] at h
  rcases h with rfl | rfl | rfl | rfl | rfl | rfl | rfl | rfl | rfl | rfl | rfl <;> rfl

/-! ## The case split -/

/-- Every instruction belongs to one family. -/
theorem instr_family_cases {motive : Instr → Prop}
    (h_ldRR : ∀ (dst src : R8), motive (.ldRR dst src))
    (h_ldRN : ∀ (dst : R8) (n : Byte), motive (.ldRN dst n))
    (h_ldRIndHl : ∀ (dst : R8), motive (.ldRIndHl dst))
    (h_ldIndHlR : ∀ (src : R8), motive (.ldIndHlR src))
    (h_aluO : ∀ (op : AluOp) (o : Opd), motive (.aluO op o))
    (h_aluN : ∀ (op : AluOp) (n : Byte), motive (.aluN op n))
    (h_incO : ∀ (o : Opd), motive (.incO o))
    (h_decO : ∀ (o : Opd), motive (.decO o))
    (h_ldPairN : ∀ (p : Pair) (n : Addr), motive (.ldPairN p n))
    (h_incPair : ∀ (p : Pair), motive (.incPair p))
    (h_decPair : ∀ (p : Pair), motive (.decPair p))
    (h_addHl : ∀ (p : Pair), motive (.addHl p))
    (h_push : ∀ (p : StackPair), motive (.push p))
    (h_pop : ∀ (p : StackPair), motive (.pop p))
    (h_jpCc : ∀ (cc : Cond) (n : Addr), motive (.jpCc cc n))
    (h_jrCc : ∀ (cc : Cond) (e : Byte), motive (.jrCc cc e))
    (h_callCc : ∀ (cc : Cond) (n : Addr), motive (.callCc cc n))
    (h_retCc : ∀ (cc : Cond), motive (.retCc cc))
    (h_rst : ∀ (y : Fin 8), motive (.rst y))
    (h_shiftO : ∀ (op : ShiftOp) (o : Opd), motive (.shiftO op o))
    (h_bitO : ∀ (b : Fin 8) (o : Opd), motive (.bitO b o))
    (h_resO : ∀ (b : Fin 8) (o : Opd), motive (.resO b o))
    (h_setO : ∀ (b : Fin 8) (o : Opd), motive (.setO b o))
    (h_nop : motive .nop)
    (h_ldIndBcA : motive .ldIndBcA)
    (h_rlca : motive .rlca)
    (h_ldIndN16Sp : ∀ n : Addr, motive (.ldIndN16Sp n))
    (h_ldAIndBc : motive .ldAIndBc)
    (h_rrca : motive .rrca)
    (h_stop : ∀ n : Byte, motive (.stop n))
    (h_ldIndDeA : motive .ldIndDeA)
    (h_rla : motive .rla)
    (h_jrE8 : ∀ e : Byte, motive (.jrE8 e))
    (h_ldAIndDe : motive .ldAIndDe)
    (h_rra : motive .rra)
    (h_ldIndHlIncA : motive .ldIndHlIncA)
    (h_daa : motive .daa)
    (h_ldAIndHlInc : motive .ldAIndHlInc)
    (h_cpl : motive .cpl)
    (h_ldIndHlDecA : motive .ldIndHlDecA)
    (h_ldIndHlN8 : ∀ n : Byte, motive (.ldIndHlN8 n))
    (h_scf : motive .scf)
    (h_ldAIndHlDec : motive .ldAIndHlDec)
    (h_ccf : motive .ccf)
    (h_halt : motive .halt)
    (h_jpN16 : ∀ n : Addr, motive (.jpN16 n))
    (h_ret : motive .ret)
    (h_prefixCb : ∀ op2 : Byte, motive (.prefixCb op2))
    (h_callN16 : ∀ n : Addr, motive (.callN16 n))
    (h_reti : motive .reti)
    (h_ldhIndN8A : ∀ n : Byte, motive (.ldhIndN8A n))
    (h_ldhIndCA : motive .ldhIndCA)
    (h_addSpE8 : ∀ e : Byte, motive (.addSpE8 e))
    (h_jpHl : motive .jpHl)
    (h_ldIndN16A : ∀ n : Addr, motive (.ldIndN16A n))
    (h_ldhAIndN8 : ∀ n : Byte, motive (.ldhAIndN8 n))
    (h_popAf : motive .popAf)
    (h_ldhAIndC : motive .ldhAIndC)
    (h_di : motive .di)
    (h_pushAf : motive .pushAf)
    (h_ldHlSpE8 : ∀ e : Byte, motive (.ldHlSpE8 e))
    (h_ldSpHl : motive .ldSpHl)
    (h_ldAIndN16 : ∀ n : Addr, motive (.ldAIndN16 n))
    (h_ei : motive .ei)
    (h_illegal : ∀ p ∈ illegalOps, motive p.2) (i : Instr) : motive i := by
  cases i with
  | ldBcN16 n => exact h_ldPairN .bc n
  | ldBN8 n => exact h_ldRN .b n
  | ldIndN16Sp n => exact h_ldIndN16Sp n
  | ldCN8 n => exact h_ldRN .c n
  | stop n => exact h_stop n
  | ldDeN16 n => exact h_ldPairN .de n
  | ldDN8 n => exact h_ldRN .d n
  | jrE8 e => exact h_jrE8 e
  | ldEN8 n => exact h_ldRN .e n
  | jrNzE8 e => exact h_jrCc .nz e
  | ldHlN16 n => exact h_ldPairN .hl n
  | ldHN8 n => exact h_ldRN .h n
  | jrZE8 e => exact h_jrCc .z e
  | ldLN8 n => exact h_ldRN .l n
  | jrNcE8 e => exact h_jrCc .nc e
  | ldSpN16 n => exact h_ldPairN .sp n
  | ldIndHlN8 n => exact h_ldIndHlN8 n
  | jrCE8 e => exact h_jrCc .c e
  | ldAN8 n => exact h_ldRN .a n
  | jpNzN16 n => exact h_jpCc .nz n
  | jpN16 n => exact h_jpN16 n
  | callNzN16 n => exact h_callCc .nz n
  | addAN8 n => exact h_aluN .add n
  | jpZN16 n => exact h_jpCc .z n
  | prefixCb op2 => exact h_prefixCb op2
  | callZN16 n => exact h_callCc .z n
  | callN16 n => exact h_callN16 n
  | adcAN8 n => exact h_aluN .adc n
  | jpNcN16 n => exact h_jpCc .nc n
  | callNcN16 n => exact h_callCc .nc n
  | subN8 n => exact h_aluN .sub n
  | jpCN16 n => exact h_jpCc .c n
  | callCN16 n => exact h_callCc .c n
  | sbcAN8 n => exact h_aluN .sbc n
  | ldhIndN8A n => exact h_ldhIndN8A n
  | andN8 n => exact h_aluN .and n
  | addSpE8 e => exact h_addSpE8 e
  | ldIndN16A n => exact h_ldIndN16A n
  | xorN8 n => exact h_aluN .xor n
  | ldhAIndN8 n => exact h_ldhAIndN8 n
  | orN8 n => exact h_aluN .or n
  | ldHlSpE8 e => exact h_ldHlSpE8 e
  | ldAIndN16 n => exact h_ldAIndN16 n
  | cpN8 n => exact h_aluN .cp n
  | nop => exact h_nop
  | ldIndBcA => exact h_ldIndBcA
  | incBc => exact h_incPair .bc
  | incB => exact h_incO (.reg .b)
  | decB => exact h_decO (.reg .b)
  | rlca => exact h_rlca
  | addHlBc => exact h_addHl .bc
  | ldAIndBc => exact h_ldAIndBc
  | decBc => exact h_decPair .bc
  | incC => exact h_incO (.reg .c)
  | decC => exact h_decO (.reg .c)
  | rrca => exact h_rrca
  | ldIndDeA => exact h_ldIndDeA
  | incDe => exact h_incPair .de
  | incD => exact h_incO (.reg .d)
  | decD => exact h_decO (.reg .d)
  | rla => exact h_rla
  | addHlDe => exact h_addHl .de
  | ldAIndDe => exact h_ldAIndDe
  | decDe => exact h_decPair .de
  | incE => exact h_incO (.reg .e)
  | decE => exact h_decO (.reg .e)
  | rra => exact h_rra
  | ldIndHlIncA => exact h_ldIndHlIncA
  | incHl => exact h_incPair .hl
  | incH => exact h_incO (.reg .h)
  | decH => exact h_decO (.reg .h)
  | daa => exact h_daa
  | addHlHl => exact h_addHl .hl
  | ldAIndHlInc => exact h_ldAIndHlInc
  | decHl => exact h_decPair .hl
  | incL => exact h_incO (.reg .l)
  | decL => exact h_decO (.reg .l)
  | cpl => exact h_cpl
  | ldIndHlDecA => exact h_ldIndHlDecA
  | incSp => exact h_incPair .sp
  | incIndHl => exact h_incO .indHl
  | decIndHl => exact h_decO .indHl
  | scf => exact h_scf
  | addHlSp => exact h_addHl .sp
  | ldAIndHlDec => exact h_ldAIndHlDec
  | decSp => exact h_decPair .sp
  | incA => exact h_incO (.reg .a)
  | decA => exact h_decO (.reg .a)
  | ccf => exact h_ccf
  | ldBB => exact h_ldRR .b .b
  | ldBC => exact h_ldRR .b .c
  | ldBD => exact h_ldRR .b .d
  | ldBE => exact h_ldRR .b .e
  | ldBH => exact h_ldRR .b .h
  | ldBL => exact h_ldRR .b .l
  | ldBIndHl => exact h_ldRIndHl .b
  | ldBA => exact h_ldRR .b .a
  | ldCB => exact h_ldRR .c .b
  | ldCC => exact h_ldRR .c .c
  | ldCD => exact h_ldRR .c .d
  | ldCE => exact h_ldRR .c .e
  | ldCH => exact h_ldRR .c .h
  | ldCL => exact h_ldRR .c .l
  | ldCIndHl => exact h_ldRIndHl .c
  | ldCA => exact h_ldRR .c .a
  | ldDB => exact h_ldRR .d .b
  | ldDC => exact h_ldRR .d .c
  | ldDD => exact h_ldRR .d .d
  | ldDE => exact h_ldRR .d .e
  | ldDH => exact h_ldRR .d .h
  | ldDL => exact h_ldRR .d .l
  | ldDIndHl => exact h_ldRIndHl .d
  | ldDA => exact h_ldRR .d .a
  | ldEB => exact h_ldRR .e .b
  | ldEC => exact h_ldRR .e .c
  | ldED => exact h_ldRR .e .d
  | ldEE => exact h_ldRR .e .e
  | ldEH => exact h_ldRR .e .h
  | ldEL => exact h_ldRR .e .l
  | ldEIndHl => exact h_ldRIndHl .e
  | ldEA => exact h_ldRR .e .a
  | ldHB => exact h_ldRR .h .b
  | ldHC => exact h_ldRR .h .c
  | ldHD => exact h_ldRR .h .d
  | ldHE => exact h_ldRR .h .e
  | ldHH => exact h_ldRR .h .h
  | ldHL => exact h_ldRR .h .l
  | ldHIndHl => exact h_ldRIndHl .h
  | ldHA => exact h_ldRR .h .a
  | ldLB => exact h_ldRR .l .b
  | ldLC => exact h_ldRR .l .c
  | ldLD => exact h_ldRR .l .d
  | ldLE => exact h_ldRR .l .e
  | ldLH => exact h_ldRR .l .h
  | ldLL => exact h_ldRR .l .l
  | ldLIndHl => exact h_ldRIndHl .l
  | ldLA => exact h_ldRR .l .a
  | ldIndHlB => exact h_ldIndHlR .b
  | ldIndHlC => exact h_ldIndHlR .c
  | ldIndHlD => exact h_ldIndHlR .d
  | ldIndHlE => exact h_ldIndHlR .e
  | ldIndHlH => exact h_ldIndHlR .h
  | ldIndHlL => exact h_ldIndHlR .l
  | halt => exact h_halt
  | ldIndHlA => exact h_ldIndHlR .a
  | ldAB => exact h_ldRR .a .b
  | ldAC => exact h_ldRR .a .c
  | ldAD => exact h_ldRR .a .d
  | ldAE => exact h_ldRR .a .e
  | ldAH => exact h_ldRR .a .h
  | ldAL => exact h_ldRR .a .l
  | ldAIndHl => exact h_ldRIndHl .a
  | ldAA => exact h_ldRR .a .a
  | addAB => exact h_aluO .add (.reg .b)
  | addAC => exact h_aluO .add (.reg .c)
  | addAD => exact h_aluO .add (.reg .d)
  | addAE => exact h_aluO .add (.reg .e)
  | addAH => exact h_aluO .add (.reg .h)
  | addAL => exact h_aluO .add (.reg .l)
  | addAIndHl => exact h_aluO .add .indHl
  | addAA => exact h_aluO .add (.reg .a)
  | adcAB => exact h_aluO .adc (.reg .b)
  | adcAC => exact h_aluO .adc (.reg .c)
  | adcAD => exact h_aluO .adc (.reg .d)
  | adcAE => exact h_aluO .adc (.reg .e)
  | adcAH => exact h_aluO .adc (.reg .h)
  | adcAL => exact h_aluO .adc (.reg .l)
  | adcAIndHl => exact h_aluO .adc .indHl
  | adcAA => exact h_aluO .adc (.reg .a)
  | subB => exact h_aluO .sub (.reg .b)
  | subC => exact h_aluO .sub (.reg .c)
  | subD => exact h_aluO .sub (.reg .d)
  | subE => exact h_aluO .sub (.reg .e)
  | subH => exact h_aluO .sub (.reg .h)
  | subL => exact h_aluO .sub (.reg .l)
  | subIndHl => exact h_aluO .sub .indHl
  | subA => exact h_aluO .sub (.reg .a)
  | sbcAB => exact h_aluO .sbc (.reg .b)
  | sbcAC => exact h_aluO .sbc (.reg .c)
  | sbcAD => exact h_aluO .sbc (.reg .d)
  | sbcAE => exact h_aluO .sbc (.reg .e)
  | sbcAH => exact h_aluO .sbc (.reg .h)
  | sbcAL => exact h_aluO .sbc (.reg .l)
  | sbcAIndHl => exact h_aluO .sbc .indHl
  | sbcAA => exact h_aluO .sbc (.reg .a)
  | andB => exact h_aluO .and (.reg .b)
  | andC => exact h_aluO .and (.reg .c)
  | andD => exact h_aluO .and (.reg .d)
  | andE => exact h_aluO .and (.reg .e)
  | andH => exact h_aluO .and (.reg .h)
  | andL => exact h_aluO .and (.reg .l)
  | andIndHl => exact h_aluO .and .indHl
  | andA => exact h_aluO .and (.reg .a)
  | xorB => exact h_aluO .xor (.reg .b)
  | xorC => exact h_aluO .xor (.reg .c)
  | xorD => exact h_aluO .xor (.reg .d)
  | xorE => exact h_aluO .xor (.reg .e)
  | xorH => exact h_aluO .xor (.reg .h)
  | xorL => exact h_aluO .xor (.reg .l)
  | xorIndHl => exact h_aluO .xor .indHl
  | xorA => exact h_aluO .xor (.reg .a)
  | orB => exact h_aluO .or (.reg .b)
  | orC => exact h_aluO .or (.reg .c)
  | orD => exact h_aluO .or (.reg .d)
  | orE => exact h_aluO .or (.reg .e)
  | orH => exact h_aluO .or (.reg .h)
  | orL => exact h_aluO .or (.reg .l)
  | orIndHl => exact h_aluO .or .indHl
  | orA => exact h_aluO .or (.reg .a)
  | cpB => exact h_aluO .cp (.reg .b)
  | cpC => exact h_aluO .cp (.reg .c)
  | cpD => exact h_aluO .cp (.reg .d)
  | cpE => exact h_aluO .cp (.reg .e)
  | cpH => exact h_aluO .cp (.reg .h)
  | cpL => exact h_aluO .cp (.reg .l)
  | cpIndHl => exact h_aluO .cp .indHl
  | cpA => exact h_aluO .cp (.reg .a)
  | retNz => exact h_retCc .nz
  | popBc => exact h_pop .bc
  | pushBc => exact h_push .bc
  | rst00 => exact h_rst 0
  | retZ => exact h_retCc .z
  | ret => exact h_ret
  | rst08 => exact h_rst 1
  | retNc => exact h_retCc .nc
  | popDe => exact h_pop .de
  | illegalD3 => exact h_illegal (0xD3, .illegalD3) (by decide)
  | pushDe => exact h_push .de
  | rst10 => exact h_rst 2
  | retC => exact h_retCc .c
  | reti => exact h_reti
  | illegalDB => exact h_illegal (0xDB, .illegalDB) (by decide)
  | illegalDD => exact h_illegal (0xDD, .illegalDD) (by decide)
  | rst18 => exact h_rst 3
  | popHl => exact h_pop .hl
  | ldhIndCA => exact h_ldhIndCA
  | illegalE3 => exact h_illegal (0xE3, .illegalE3) (by decide)
  | illegalE4 => exact h_illegal (0xE4, .illegalE4) (by decide)
  | pushHl => exact h_push .hl
  | rst20 => exact h_rst 4
  | jpHl => exact h_jpHl
  | illegalEB => exact h_illegal (0xEB, .illegalEB) (by decide)
  | illegalEC => exact h_illegal (0xEC, .illegalEC) (by decide)
  | illegalED => exact h_illegal (0xED, .illegalED) (by decide)
  | rst28 => exact h_rst 5
  | popAf => exact h_popAf
  | ldhAIndC => exact h_ldhAIndC
  | di => exact h_di
  | illegalF4 => exact h_illegal (0xF4, .illegalF4) (by decide)
  | pushAf => exact h_pushAf
  | rst30 => exact h_rst 6
  | ldSpHl => exact h_ldSpHl
  | ei => exact h_ei
  | illegalFC => exact h_illegal (0xFC, .illegalFC) (by decide)
  | illegalFD => exact h_illegal (0xFD, .illegalFD) (by decide)
  | rst38 => exact h_rst 7
  | rlcB => exact h_shiftO .rlc (.reg .b)
  | rlcC => exact h_shiftO .rlc (.reg .c)
  | rlcD => exact h_shiftO .rlc (.reg .d)
  | rlcE => exact h_shiftO .rlc (.reg .e)
  | rlcH => exact h_shiftO .rlc (.reg .h)
  | rlcL => exact h_shiftO .rlc (.reg .l)
  | rlcIndHl => exact h_shiftO .rlc .indHl
  | rlcA => exact h_shiftO .rlc (.reg .a)
  | rrcB => exact h_shiftO .rrc (.reg .b)
  | rrcC => exact h_shiftO .rrc (.reg .c)
  | rrcD => exact h_shiftO .rrc (.reg .d)
  | rrcE => exact h_shiftO .rrc (.reg .e)
  | rrcH => exact h_shiftO .rrc (.reg .h)
  | rrcL => exact h_shiftO .rrc (.reg .l)
  | rrcIndHl => exact h_shiftO .rrc .indHl
  | rrcA => exact h_shiftO .rrc (.reg .a)
  | rlB => exact h_shiftO .rl (.reg .b)
  | rlC => exact h_shiftO .rl (.reg .c)
  | rlD => exact h_shiftO .rl (.reg .d)
  | rlE => exact h_shiftO .rl (.reg .e)
  | rlH => exact h_shiftO .rl (.reg .h)
  | rlL => exact h_shiftO .rl (.reg .l)
  | rlIndHl => exact h_shiftO .rl .indHl
  | rlA => exact h_shiftO .rl (.reg .a)
  | rrB => exact h_shiftO .rr (.reg .b)
  | rrC => exact h_shiftO .rr (.reg .c)
  | rrD => exact h_shiftO .rr (.reg .d)
  | rrE => exact h_shiftO .rr (.reg .e)
  | rrH => exact h_shiftO .rr (.reg .h)
  | rrL => exact h_shiftO .rr (.reg .l)
  | rrIndHl => exact h_shiftO .rr .indHl
  | rrA => exact h_shiftO .rr (.reg .a)
  | slaB => exact h_shiftO .sla (.reg .b)
  | slaC => exact h_shiftO .sla (.reg .c)
  | slaD => exact h_shiftO .sla (.reg .d)
  | slaE => exact h_shiftO .sla (.reg .e)
  | slaH => exact h_shiftO .sla (.reg .h)
  | slaL => exact h_shiftO .sla (.reg .l)
  | slaIndHl => exact h_shiftO .sla .indHl
  | slaA => exact h_shiftO .sla (.reg .a)
  | sraB => exact h_shiftO .sra (.reg .b)
  | sraC => exact h_shiftO .sra (.reg .c)
  | sraD => exact h_shiftO .sra (.reg .d)
  | sraE => exact h_shiftO .sra (.reg .e)
  | sraH => exact h_shiftO .sra (.reg .h)
  | sraL => exact h_shiftO .sra (.reg .l)
  | sraIndHl => exact h_shiftO .sra .indHl
  | sraA => exact h_shiftO .sra (.reg .a)
  | swapB => exact h_shiftO .swap (.reg .b)
  | swapC => exact h_shiftO .swap (.reg .c)
  | swapD => exact h_shiftO .swap (.reg .d)
  | swapE => exact h_shiftO .swap (.reg .e)
  | swapH => exact h_shiftO .swap (.reg .h)
  | swapL => exact h_shiftO .swap (.reg .l)
  | swapIndHl => exact h_shiftO .swap .indHl
  | swapA => exact h_shiftO .swap (.reg .a)
  | srlB => exact h_shiftO .srl (.reg .b)
  | srlC => exact h_shiftO .srl (.reg .c)
  | srlD => exact h_shiftO .srl (.reg .d)
  | srlE => exact h_shiftO .srl (.reg .e)
  | srlH => exact h_shiftO .srl (.reg .h)
  | srlL => exact h_shiftO .srl (.reg .l)
  | srlIndHl => exact h_shiftO .srl .indHl
  | srlA => exact h_shiftO .srl (.reg .a)
  | bit0B => exact h_bitO 0 (.reg .b)
  | bit0C => exact h_bitO 0 (.reg .c)
  | bit0D => exact h_bitO 0 (.reg .d)
  | bit0E => exact h_bitO 0 (.reg .e)
  | bit0H => exact h_bitO 0 (.reg .h)
  | bit0L => exact h_bitO 0 (.reg .l)
  | bit0IndHl => exact h_bitO 0 .indHl
  | bit0A => exact h_bitO 0 (.reg .a)
  | bit1B => exact h_bitO 1 (.reg .b)
  | bit1C => exact h_bitO 1 (.reg .c)
  | bit1D => exact h_bitO 1 (.reg .d)
  | bit1E => exact h_bitO 1 (.reg .e)
  | bit1H => exact h_bitO 1 (.reg .h)
  | bit1L => exact h_bitO 1 (.reg .l)
  | bit1IndHl => exact h_bitO 1 .indHl
  | bit1A => exact h_bitO 1 (.reg .a)
  | bit2B => exact h_bitO 2 (.reg .b)
  | bit2C => exact h_bitO 2 (.reg .c)
  | bit2D => exact h_bitO 2 (.reg .d)
  | bit2E => exact h_bitO 2 (.reg .e)
  | bit2H => exact h_bitO 2 (.reg .h)
  | bit2L => exact h_bitO 2 (.reg .l)
  | bit2IndHl => exact h_bitO 2 .indHl
  | bit2A => exact h_bitO 2 (.reg .a)
  | bit3B => exact h_bitO 3 (.reg .b)
  | bit3C => exact h_bitO 3 (.reg .c)
  | bit3D => exact h_bitO 3 (.reg .d)
  | bit3E => exact h_bitO 3 (.reg .e)
  | bit3H => exact h_bitO 3 (.reg .h)
  | bit3L => exact h_bitO 3 (.reg .l)
  | bit3IndHl => exact h_bitO 3 .indHl
  | bit3A => exact h_bitO 3 (.reg .a)
  | bit4B => exact h_bitO 4 (.reg .b)
  | bit4C => exact h_bitO 4 (.reg .c)
  | bit4D => exact h_bitO 4 (.reg .d)
  | bit4E => exact h_bitO 4 (.reg .e)
  | bit4H => exact h_bitO 4 (.reg .h)
  | bit4L => exact h_bitO 4 (.reg .l)
  | bit4IndHl => exact h_bitO 4 .indHl
  | bit4A => exact h_bitO 4 (.reg .a)
  | bit5B => exact h_bitO 5 (.reg .b)
  | bit5C => exact h_bitO 5 (.reg .c)
  | bit5D => exact h_bitO 5 (.reg .d)
  | bit5E => exact h_bitO 5 (.reg .e)
  | bit5H => exact h_bitO 5 (.reg .h)
  | bit5L => exact h_bitO 5 (.reg .l)
  | bit5IndHl => exact h_bitO 5 .indHl
  | bit5A => exact h_bitO 5 (.reg .a)
  | bit6B => exact h_bitO 6 (.reg .b)
  | bit6C => exact h_bitO 6 (.reg .c)
  | bit6D => exact h_bitO 6 (.reg .d)
  | bit6E => exact h_bitO 6 (.reg .e)
  | bit6H => exact h_bitO 6 (.reg .h)
  | bit6L => exact h_bitO 6 (.reg .l)
  | bit6IndHl => exact h_bitO 6 .indHl
  | bit6A => exact h_bitO 6 (.reg .a)
  | bit7B => exact h_bitO 7 (.reg .b)
  | bit7C => exact h_bitO 7 (.reg .c)
  | bit7D => exact h_bitO 7 (.reg .d)
  | bit7E => exact h_bitO 7 (.reg .e)
  | bit7H => exact h_bitO 7 (.reg .h)
  | bit7L => exact h_bitO 7 (.reg .l)
  | bit7IndHl => exact h_bitO 7 .indHl
  | bit7A => exact h_bitO 7 (.reg .a)
  | res0B => exact h_resO 0 (.reg .b)
  | res0C => exact h_resO 0 (.reg .c)
  | res0D => exact h_resO 0 (.reg .d)
  | res0E => exact h_resO 0 (.reg .e)
  | res0H => exact h_resO 0 (.reg .h)
  | res0L => exact h_resO 0 (.reg .l)
  | res0IndHl => exact h_resO 0 .indHl
  | res0A => exact h_resO 0 (.reg .a)
  | res1B => exact h_resO 1 (.reg .b)
  | res1C => exact h_resO 1 (.reg .c)
  | res1D => exact h_resO 1 (.reg .d)
  | res1E => exact h_resO 1 (.reg .e)
  | res1H => exact h_resO 1 (.reg .h)
  | res1L => exact h_resO 1 (.reg .l)
  | res1IndHl => exact h_resO 1 .indHl
  | res1A => exact h_resO 1 (.reg .a)
  | res2B => exact h_resO 2 (.reg .b)
  | res2C => exact h_resO 2 (.reg .c)
  | res2D => exact h_resO 2 (.reg .d)
  | res2E => exact h_resO 2 (.reg .e)
  | res2H => exact h_resO 2 (.reg .h)
  | res2L => exact h_resO 2 (.reg .l)
  | res2IndHl => exact h_resO 2 .indHl
  | res2A => exact h_resO 2 (.reg .a)
  | res3B => exact h_resO 3 (.reg .b)
  | res3C => exact h_resO 3 (.reg .c)
  | res3D => exact h_resO 3 (.reg .d)
  | res3E => exact h_resO 3 (.reg .e)
  | res3H => exact h_resO 3 (.reg .h)
  | res3L => exact h_resO 3 (.reg .l)
  | res3IndHl => exact h_resO 3 .indHl
  | res3A => exact h_resO 3 (.reg .a)
  | res4B => exact h_resO 4 (.reg .b)
  | res4C => exact h_resO 4 (.reg .c)
  | res4D => exact h_resO 4 (.reg .d)
  | res4E => exact h_resO 4 (.reg .e)
  | res4H => exact h_resO 4 (.reg .h)
  | res4L => exact h_resO 4 (.reg .l)
  | res4IndHl => exact h_resO 4 .indHl
  | res4A => exact h_resO 4 (.reg .a)
  | res5B => exact h_resO 5 (.reg .b)
  | res5C => exact h_resO 5 (.reg .c)
  | res5D => exact h_resO 5 (.reg .d)
  | res5E => exact h_resO 5 (.reg .e)
  | res5H => exact h_resO 5 (.reg .h)
  | res5L => exact h_resO 5 (.reg .l)
  | res5IndHl => exact h_resO 5 .indHl
  | res5A => exact h_resO 5 (.reg .a)
  | res6B => exact h_resO 6 (.reg .b)
  | res6C => exact h_resO 6 (.reg .c)
  | res6D => exact h_resO 6 (.reg .d)
  | res6E => exact h_resO 6 (.reg .e)
  | res6H => exact h_resO 6 (.reg .h)
  | res6L => exact h_resO 6 (.reg .l)
  | res6IndHl => exact h_resO 6 .indHl
  | res6A => exact h_resO 6 (.reg .a)
  | res7B => exact h_resO 7 (.reg .b)
  | res7C => exact h_resO 7 (.reg .c)
  | res7D => exact h_resO 7 (.reg .d)
  | res7E => exact h_resO 7 (.reg .e)
  | res7H => exact h_resO 7 (.reg .h)
  | res7L => exact h_resO 7 (.reg .l)
  | res7IndHl => exact h_resO 7 .indHl
  | res7A => exact h_resO 7 (.reg .a)
  | set0B => exact h_setO 0 (.reg .b)
  | set0C => exact h_setO 0 (.reg .c)
  | set0D => exact h_setO 0 (.reg .d)
  | set0E => exact h_setO 0 (.reg .e)
  | set0H => exact h_setO 0 (.reg .h)
  | set0L => exact h_setO 0 (.reg .l)
  | set0IndHl => exact h_setO 0 .indHl
  | set0A => exact h_setO 0 (.reg .a)
  | set1B => exact h_setO 1 (.reg .b)
  | set1C => exact h_setO 1 (.reg .c)
  | set1D => exact h_setO 1 (.reg .d)
  | set1E => exact h_setO 1 (.reg .e)
  | set1H => exact h_setO 1 (.reg .h)
  | set1L => exact h_setO 1 (.reg .l)
  | set1IndHl => exact h_setO 1 .indHl
  | set1A => exact h_setO 1 (.reg .a)
  | set2B => exact h_setO 2 (.reg .b)
  | set2C => exact h_setO 2 (.reg .c)
  | set2D => exact h_setO 2 (.reg .d)
  | set2E => exact h_setO 2 (.reg .e)
  | set2H => exact h_setO 2 (.reg .h)
  | set2L => exact h_setO 2 (.reg .l)
  | set2IndHl => exact h_setO 2 .indHl
  | set2A => exact h_setO 2 (.reg .a)
  | set3B => exact h_setO 3 (.reg .b)
  | set3C => exact h_setO 3 (.reg .c)
  | set3D => exact h_setO 3 (.reg .d)
  | set3E => exact h_setO 3 (.reg .e)
  | set3H => exact h_setO 3 (.reg .h)
  | set3L => exact h_setO 3 (.reg .l)
  | set3IndHl => exact h_setO 3 .indHl
  | set3A => exact h_setO 3 (.reg .a)
  | set4B => exact h_setO 4 (.reg .b)
  | set4C => exact h_setO 4 (.reg .c)
  | set4D => exact h_setO 4 (.reg .d)
  | set4E => exact h_setO 4 (.reg .e)
  | set4H => exact h_setO 4 (.reg .h)
  | set4L => exact h_setO 4 (.reg .l)
  | set4IndHl => exact h_setO 4 .indHl
  | set4A => exact h_setO 4 (.reg .a)
  | set5B => exact h_setO 5 (.reg .b)
  | set5C => exact h_setO 5 (.reg .c)
  | set5D => exact h_setO 5 (.reg .d)
  | set5E => exact h_setO 5 (.reg .e)
  | set5H => exact h_setO 5 (.reg .h)
  | set5L => exact h_setO 5 (.reg .l)
  | set5IndHl => exact h_setO 5 .indHl
  | set5A => exact h_setO 5 (.reg .a)
  | set6B => exact h_setO 6 (.reg .b)
  | set6C => exact h_setO 6 (.reg .c)
  | set6D => exact h_setO 6 (.reg .d)
  | set6E => exact h_setO 6 (.reg .e)
  | set6H => exact h_setO 6 (.reg .h)
  | set6L => exact h_setO 6 (.reg .l)
  | set6IndHl => exact h_setO 6 .indHl
  | set6A => exact h_setO 6 (.reg .a)
  | set7B => exact h_setO 7 (.reg .b)
  | set7C => exact h_setO 7 (.reg .c)
  | set7D => exact h_setO 7 (.reg .d)
  | set7E => exact h_setO 7 (.reg .e)
  | set7H => exact h_setO 7 (.reg .h)
  | set7L => exact h_setO 7 (.reg .l)
  | set7IndHl => exact h_setO 7 .indHl
  | set7A => exact h_setO 7 (.reg .a)

end Sys2Proof.Machine
end

