-- ==== Sys2Proof/Laws/Memory.lean ====
section
/-! SUPPORT. The laws of a byte store: a read after a write, that a write leaves every other offset alone, and that
every operation keeps the canonical form. -/

namespace Sys2Proof.Machine

theorem Memory.mem_erase {m : Memory} {a : Nat} {c : Host.Cell} (h : c ∈ m.erase a) : c ∈ m ∧ c.1 ≠ a := by
  induction m with
  | nil => simp [Memory.erase] at h
  | cons x m ih =>
    obtain ⟨b, v⟩ := x
    simp only [Memory.erase] at h
    split at h
    · exact ⟨List.mem_cons_of_mem _ (ih h).1, (ih h).2⟩
    · rcases List.mem_cons.1 h with rfl | h
      · exact ⟨List.mem_cons_self .., ‹_›⟩
      · exact ⟨List.mem_cons_of_mem _ (ih h).1, (ih h).2⟩

theorem Memory.mem_insert {m : Memory} {a : Nat} {v : Byte} {c : Host.Cell} (h : c ∈ m.insert a v) :
    c = (a, v) ∨ c ∈ m := by
  induction m with
  | nil => simpa [Memory.insert] using h
  | cons x m ih =>
    obtain ⟨b, w⟩ := x
    simp only [Memory.insert] at h
    split at h
    · simpa using h
    · rcases List.mem_cons.1 h with rfl | h
      · exact .inr (List.mem_cons_self ..)
      · exact (ih h).imp_right (List.mem_cons_of_mem _)

/-- Every entry after a write is the written one or was there before, at another offset. -/
theorem Memory.mem_write {m : Memory} {a : Nat} {v : Byte} {c : Host.Cell} (h : c ∈ m.write a v) :
    (c = (a, v) ∧ v ≠ Memory.unlisted) ∨ (c ∈ m ∧ c.1 ≠ a) := by
  unfold Memory.write at h
  split at h
  · exact .inr (Memory.mem_erase h)
  · rcases Memory.mem_insert h with h | h
    · exact .inl ⟨h, ‹_›⟩
    · exact .inr (Memory.mem_erase h)

theorem Memory.read_of_not_mem {m : Memory} {a : Nat} (h : ∀ c ∈ m, c.1 ≠ a) : m.read a = Memory.unlisted := by
  induction m with
  | nil => rfl
  | cons x m ih =>
    obtain ⟨b, v⟩ := x
    have hb : b ≠ a := h (b, v) (List.mem_cons_self ..)
    simp only [Memory.read, if_neg hb]
    exact ih fun c hc => h c (List.mem_cons_of_mem _ hc)

theorem Memory.read_erase_same (m : Memory) (a : Nat) : (m.erase a).read a = Memory.unlisted :=
  Memory.read_of_not_mem fun _ hc => (Memory.mem_erase hc).2

theorem Memory.read_erase_other (m : Memory) {a b : Nat} (h : a ≠ b) : (m.erase a).read b = m.read b := by
  induction m with
  | nil => rfl
  | cons x m ih =>
    obtain ⟨k, v⟩ := x
    by_cases hk : k = a
    · subst hk; simp [Memory.erase, Memory.read, h, ih]
    · simp only [Memory.erase, if_neg hk, Memory.read, ih]

theorem Memory.read_insert_same {m : Memory} {a : Nat} (v : Byte) (h : ∀ c ∈ m, c.1 ≠ a) :
    (m.insert a v).read a = v := by
  induction m with
  | nil => simp [Memory.insert, Memory.read]
  | cons x m ih =>
    obtain ⟨k, w⟩ := x
    have hk : k ≠ a := h (k, w) (List.mem_cons_self ..)
    simp only [Memory.insert]
    split
    · simp [Memory.read]
    · simp [Memory.read, hk, ih fun c hc => h c (List.mem_cons_of_mem _ hc)]

theorem Memory.read_insert_other (m : Memory) {a b : Nat} (v : Byte) (h : a ≠ b) :
    (m.insert a v).read b = m.read b := by
  induction m with
  | nil => simp [Memory.insert, Memory.read, h]
  | cons x m ih =>
    obtain ⟨k, w⟩ := x
    simp only [Memory.insert]
    split
    · simp [Memory.read, h]
    · by_cases hb : k = b <;> simp [Memory.read, hb, ih]

/-- A read of the offset written gives the byte written. -/
@[simp] theorem Memory.read_write_same (m : Memory) (a : Nat) (v : Byte) : (m.write a v).read a = v := by
  unfold Memory.write
  split
  · rw [Memory.read_erase_same]; exact Eq.symm ‹_›
  · exact Memory.read_insert_same v fun _ hc => (Memory.mem_erase hc).2

/-- A write leaves every other offset alone. -/
theorem Memory.read_write_other (m : Memory) {a b : Nat} (v : Byte) (h : a ≠ b) :
    (m.write a v).read b = m.read b := by
  unfold Memory.write
  split
  · exact Memory.read_erase_other m h
  · rw [Memory.read_insert_other _ v h, Memory.read_erase_other m h]

/-- Both cases of a read after a write. -/
theorem Memory.read_write (m : Memory) (a b : Nat) (v : Byte) :
    (m.write a v).read b = if a = b then v else m.read b := by
  split
  · subst ‹_›; exact Memory.read_write_same ..
  · exact Memory.read_write_other m v ‹_›

/-! ## The canonical form -/

theorem Memory.pairwise_erase {m : Memory} (a : Nat) (h : m.Pairwise (fun x y => x.1 < y.1)) :
    (m.erase a).Pairwise (fun x y => x.1 < y.1) := by
  induction m with
  | nil => exact .nil
  | cons x m ih =>
    obtain ⟨k, v⟩ := x
    rw [List.pairwise_cons] at h
    simp only [Memory.erase]
    split
    · exact ih h.2
    · exact List.pairwise_cons.2 ⟨fun c hc => h.1 c (Memory.mem_erase hc).1, ih h.2⟩

theorem Memory.pairwise_insert {m : Memory} {a : Nat} (v : Byte) (ha : ∀ c ∈ m, c.1 ≠ a)
    (h : m.Pairwise (fun x y => x.1 < y.1)) : (m.insert a v).Pairwise (fun x y => x.1 < y.1) := by
  induction m with
  | nil => simp [Memory.insert]
  | cons x m ih =>
    obtain ⟨k, w⟩ := x
    have hk : k ≠ a := ha (k, w) (List.mem_cons_self ..)
    rw [List.pairwise_cons] at h
    simp only [Memory.insert]
    split
    · refine List.pairwise_cons.2 ⟨fun c hc => ?_, List.pairwise_cons.2 h⟩
      rcases List.mem_cons.1 hc with rfl | hc
      · assumption
      · exact Nat.lt_trans ‹_› (h.1 c hc)
    · refine List.pairwise_cons.2 ⟨fun c hc => ?_, ih (fun c hc => ha c (List.mem_cons_of_mem _ hc)) h.2⟩
      rcases Memory.mem_insert hc with rfl | hc
      · show k < a; omega
      · exact h.1 c hc

/-- A write keeps the canonical form. -/
theorem Memory.wf_write {m : Memory} (a : Nat) (v : Byte) (h : m.wf) : (m.write a v).wf := by
  refine ⟨?_, fun c hc => ?_⟩
  · unfold Memory.write
    split
    · exact Memory.pairwise_erase a h.1
    · exact Memory.pairwise_insert v (fun _ hc => (Memory.mem_erase hc).2) (Memory.pairwise_erase a h.1)
  · rcases Memory.mem_write hc with ⟨rfl, hv⟩ | ⟨hc, -⟩
    · exact hv
    · exact h.2 c hc

/-- A write below a bound keeps every listed offset below it. -/
theorem Memory.below_write {m : Memory} {n a : Nat} (v : Byte) (ha : a < n) (h : m.below n) :
    (m.write a v).below n := fun c hc => by
  rcases Memory.mem_write hc with ⟨rfl, -⟩ | ⟨hc, -⟩
  · exact ha
  · exact h c hc

theorem Memory.mem_ofBytes {vs : List Byte} {a : Nat} {c : Host.Cell} (h : c ∈ Memory.ofBytes vs a) :
    a ≤ c.1 ∧ c.1 < a + vs.length ∧ c.2 ≠ Memory.unlisted := by
  induction vs generalizing a with
  | nil => simp [Memory.ofBytes] at h
  | cons v vs ih =>
    simp only [Memory.ofBytes] at h
    split at h
    · have := ih h; simp only [List.length_cons]; exact ⟨by omega, by omega, this.2.2⟩
    · rcases List.mem_cons.1 h with rfl | h
      · simp only [List.length_cons]; exact ⟨Nat.le_refl _, by omega, ‹_›⟩
      · have := ih h; simp only [List.length_cons]; exact ⟨by omega, by omega, this.2.2⟩

/-- A store built from bytes is in the canonical form. -/
theorem Memory.wf_ofBytes (vs : List Byte) (a : Nat) : (Memory.ofBytes vs a).wf := by
  refine ⟨?_, fun c hc => (Memory.mem_ofBytes hc).2.2⟩
  induction vs generalizing a with
  | nil => exact .nil
  | cons v vs ih =>
    simp only [Memory.ofBytes]
    split
    · exact ih _
    · exact List.pairwise_cons.2 ⟨fun c hc => (Memory.mem_ofBytes hc).1, ih _⟩

/-- A store built from bytes gives them back: an image's byte at each offset (R225). -/
theorem Memory.read_ofBytes (vs : List Byte) (a k : Nat) (h : k < vs.length) :
    (Memory.ofBytes vs a).read (a + k) = vs[k] := by
  induction vs generalizing a k with
  | nil => simp at h
  | cons v vs ih =>
    simp only [Memory.ofBytes]
    cases k with
    | zero =>
      split
      · rw [Memory.read_of_not_mem fun c hc => by have := (Memory.mem_ofBytes hc).1; omega]
        simpa using Eq.symm ‹_›
      · simp [Memory.read]
    | succ k =>
      have e : a + (k + 1) = a + 1 + k := by omega
      have hk : k < vs.length := by simpa using h
      split
      · rw [e, ih _ _ hk]; rfl
      · rw [e]
        have hne : a ≠ a + 1 + k := by omega
        simp only [Memory.read, if_neg hne]
        rw [ih _ _ hk]; rfl

end Sys2Proof.Machine
end

