-- ==== Sys2Proof/Laws/Frame.lean ====
section
/-! SUPPORT. What a bus write leaves alone: every address it does not touch is decoded as before and holds the same byte
(spec 20_memory.md R202, R220); and the two lemmas that later proofs cite of a CPU transaction, `memRead_reads` and
`memWrite_writes`. -/

namespace Sys2Proof.Machine

/-! ## The address decoder depends on the mapping alone -/

theorem locate_congr {s t : State} (b : Addr) (hp : t.params = s.params)
    (hrom : b.toNat < 0x8000 → t.cart.romOffset b.toNat = s.cart.romOffset b.toNat)
    (hext : 0xA000 ≤ b.toNat → b.toNat < 0xC000 →
      t.cart.ramTarget (b.toNat - 0xA000) = s.cart.ramTarget (b.toNat - 0xA000))
    (hwram : 0xC000 ≤ b.toNat → b.toNat < 0xE000 → t.wramOffset (b.toNat - 0xC000) = s.wramOffset (b.toNat - 0xC000))
    (hecho : 0xE000 ≤ b.toNat → b.toNat < 0xFE00 →
      t.wramOffset (b.toNat - 0xE000) = s.wramOffset (b.toNat - 0xE000)) :
    t.locate b = s.locate b := by
  unfold State.locate
  rw [hp]
  generalize b.toNat = n at *
  dsimp only
  by_cases h1 : n < 0x8000
  · rw [if_pos h1, if_pos h1, hrom h1]
  rw [if_neg h1, if_neg h1]
  by_cases h2 : n < 0xA000
  · rw [if_pos h2, if_pos h2]
  rw [if_neg h2, if_neg h2]
  by_cases h3 : n < 0xC000
  · rw [if_pos h3, if_pos h3, hext (Nat.le_of_not_lt h2) h3]
  rw [if_neg h3, if_neg h3]
  by_cases h4 : n < 0xE000
  · rw [if_pos h4, if_pos h4, hwram (Nat.le_of_not_lt h3) h4]
  rw [if_neg h4, if_neg h4]
  by_cases h5 : n < 0xFE00
  · rw [if_pos h5, if_pos h5, hecho (Nat.le_of_not_lt h4) h5]
  rw [if_neg h5, if_neg h5]

theorem wramOffset_congr {s t : State} (off : Nat) (hp : t.params = s.params) (hv : t.svbk = s.svbk) :
    t.wramOffset off = s.wramOffset off := by
  unfold State.wramOffset State.wramBank
  rw [hp, hv]

theorem locate_eq {s t : State} (b : Addr) (hp : t.params = s.params) (hc : t.cart = s.cart) (hv : t.svbk = s.svbk) :
    t.locate b = s.locate b :=
  locate_congr b hp (fun _ => by rw [hc]) (fun _ _ => by rw [hc]) (fun _ _ => wramOffset_congr _ hp hv)
    (fun _ _ => wramOffset_congr _ hp hv)

/-- What is read without a draw is what the core stores, where the picture unit does not block it. -/
theorem peek_eq (s : State) (a : Addr) :
    s.peek a = (match s.locate a with
      | .vram _ => if s.params.videoBusBlocking then none else s.heldAt a
      | .oam _ => if s.params.videoBusBlocking then none else s.heldAt a
      | .ext (.nibble _) => none
      | _ => s.heldAt a) := by
  unfold State.peek State.heldAt
  cases h : s.locate a with
  | ext t => cases t <;> rfl
  | _ => rfl

theorem peek_congr {s t : State} {b : Addr} (hp : t.params = s.params) (hl : t.locate b = s.locate b)
    (hh : t.heldAt b = s.heldAt b) : t.peek b = s.peek b := by
  rw [peek_eq, peek_eq, hl, hh, hp]

theorem readsAsBefore_of {s t : State} {a : Addr} (hp : t.params = s.params)
    (h : ∀ b, ¬s.touches a b → t.locate b = s.locate b ∧ t.stored (s.locate b) = s.stored (s.locate b)) :
    s.readsAsBefore t a := fun b hb => by
  obtain ⟨hl, hs⟩ := h b hb
  have hh : t.heldAt b = s.heldAt b := by unfold State.heldAt; rw [hl]; exact hs
  exact ⟨hl, hh, peek_congr hp hl hh⟩

/-- A change of one stored byte, seen through the decoder. -/
theorem readsAsBefore_store {s t : State} {a : Addr} (hp : t.params = s.params) (hc : t.cart = s.cart)
    (hv : t.svbk = s.svbk) (h : ∀ x, x ≠ s.locate a → t.stored x = s.stored x) : s.readsAsBefore t a :=
  readsAsBefore_of hp fun b hb => ⟨locate_eq b hp hc hv, h _ fun e => hb (.inl e)⟩

theorem ramTarget_rtcWrite (c : Cart) (r : RtcReg) (v : Byte) (off : Nat) :
    (c.rtcWrite r v).ramTarget off = c.ramTarget off := by
  obtain ⟨tc, ba, ti, ru, ro, ra, m⟩ := c
  cases m <;> rfl

theorem romOffset_rtcWrite (c : Cart) (r : RtcReg) (v : Byte) (off : Nat) :
    (c.rtcWrite r v).romOffset off = c.romOffset off := by
  obtain ⟨tc, ba, ti, ru, ro, ra, m⟩ := c
  cases m <;> rfl

theorem rtcRead_rtcWrite (c : Cart) (r r' : RtcReg) (v : Byte) : (c.rtcWrite r v).rtcRead r' = c.rtcRead r' := by
  obtain ⟨tc, ba, ti, ru, ro, ra, m⟩ := c
  cases m <;> rfl

theorem stored_vram_write (s : State) (off n : Nat) (v : Byte) {x : Target} (hx : x ≠ .vram off) :
    State.stored { s with vram := s.vram.write off v, draws := n } x = s.stored x := by
  cases x with
  | vram o => exact congrArg some (Memory.read_write_other _ v fun e => hx (by rw [e]))
  | ext t => cases t <;> rfl
  | _ => rfl

theorem stored_oam_write (s : State) (off n : Nat) (v : Byte) {x : Target} (hx : x ≠ .oam off) :
    State.stored { s with oam := s.oam.write off v, draws := n } x = s.stored x := by
  cases x with
  | oam o => exact congrArg some (Memory.read_write_other _ v fun e => hx (by rw [e]))
  | ext t => cases t <;> rfl
  | _ => rfl

theorem stored_of_eq (s : State) (n : Nat) (h : List Event) (x : Target) :
    State.stored { s with draws := n, history := h } x = s.stored x := by
  cases x with
  | ext t => cases t <;> rfl
  | _ => rfl

/-! ## The frame of a write -/

/-- A bus write leaves every address it does not touch as it was. -/
theorem busWrite_readsAsBefore {a : Addr} {v : Byte} {s t : State} (h : busWrite a v s = .ok () t) :
    s.readsAsBefore t a := by
  unfold busWrite at h
  cases hl : s.locate a with
  | rom off =>
    rw [hl] at h; cases h
    have ha : a.toNat < 0x8000 := (locate_rom_iff s a).1 ⟨off, hl⟩
    refine readsAsBefore_of rfl fun b hb => ?_
    have hb' : ¬(b.toNat < 0x8000 ∨ (0xA000 ≤ b.toNat ∧ b.toNat < 0xC000)) := fun hc => hb (.inr (.inl ⟨ha, hc⟩))
    refine ⟨locate_congr b rfl (fun hc => absurd (.inl hc) hb') (fun h1 h2 => absurd (.inr ⟨h1, h2⟩) hb')
      (fun _ _ => rfl) (fun _ _ => rfl), ?_⟩
    rcases locate_cases s b with ⟨h1, e⟩ | ⟨h1, h2, e⟩ | ⟨h1, h2, e⟩ | ⟨h1, h2, e⟩ | ⟨h1, h2, h3, e⟩ | ⟨h1, h2, h3, e⟩
      | ⟨h1, h2, e⟩ | ⟨h1, h2, e⟩ | ⟨h1, e⟩ | ⟨h1, e⟩ | ⟨h1, h2, e⟩ | ⟨h1, h2, h3, h4, h5, e⟩ | ⟨h1, h2, e⟩ | ⟨h1, e⟩
    case inl => exact absurd (.inl h1) hb'
    case inr.inr.inl => exact absurd (.inr ⟨h1, h2⟩) hb'
    all_goals (rw [e]; rfl)
  | vram off =>
    rw [hl] at h; cases h
    refine readsAsBefore_store ?_ ?_ ?_ fun x hx => ?_ <;> unfold State.videoDrawn <;> dsimp only <;> split
    · rfl
    · rfl
    · rfl
    · rfl
    · rfl
    · rfl
    · unfold videoStore
      split
      · exact stored_of_eq s (s.draws + 1) s.history x
      · exact stored_vram_write s off (s.draws + 1) v (hl ▸ hx)
    · unfold videoStore
      split
      · exact stored_of_eq s s.draws s.history x
      · exact stored_vram_write s off s.draws v (hl ▸ hx)
  | ext tg =>
    rw [hl] at h
    cases tg with
    | ram off =>
      cases h
      refine readsAsBefore_store rfl rfl rfl fun x hx => ?_
      rw [hl] at hx
      cases x with
      | ext t =>
        cases t with
        | ram o => exact congrArg some (Memory.read_write_other _ v fun e => hx (by rw [e]))
        | _ => rfl
      | _ => rfl
    | nibble off =>
      cases h
      refine readsAsBefore_store rfl rfl rfl fun x hx => ?_
      rw [hl] at hx
      cases x with
      | ext t =>
        cases t with
        | nibble o => exact congrArg some (Memory.read_write_other _ (v &&& 0x0F) fun e => hx (by rw [e]))
        | _ => rfl
      | _ => rfl
    | rtc r =>
      cases h
      refine readsAsBefore_of rfl fun b _ => ⟨locate_congr b rfl (fun _ => romOffset_rtcWrite ..)
        (fun _ _ => ramTarget_rtcWrite ..) (fun _ _ => rfl) (fun _ _ => rfl), ?_⟩
      cases s.locate b with
      | ext t =>
        cases t with
        | rtc r' => exact congrArg some (rtcRead_rtcWrite ..)
        | _ => rfl
      | _ => rfl
    | openBus k =>
      cases h
      exact readsAsBefore_store rfl rfl rfl fun x _ => stored_of_eq s s.draws _ x
    | unselected =>
      cases h
      exact readsAsBefore_store rfl rfl rfl fun x _ => stored_of_eq s s.draws _ x
  | wram off =>
    rw [hl] at h; cases h
    refine readsAsBefore_store rfl rfl rfl fun x hx => ?_
    rw [hl] at hx
    cases x with
    | wram o => exact congrArg some (Memory.read_write_other _ v fun e => hx (by rw [e]))
    | ext t => cases t <;> rfl
    | _ => rfl
  | echoFault => rw [hl] at h; cases h
  | oam off =>
    rw [hl] at h; cases h
    refine readsAsBefore_store ?_ ?_ ?_ fun x hx => ?_ <;> unfold State.videoDrawn <;> dsimp only <;> split
    · rfl
    · rfl
    · rfl
    · rfl
    · rfl
    · rfl
    · unfold videoStore
      split
      · exact stored_of_eq s (s.draws + 1) s.history x
      · exact stored_oam_write s off (s.draws + 1) v (hl ▸ hx)
    · unfold videoStore
      split
      · exact stored_of_eq s s.draws s.history x
      · exact stored_oam_write s off s.draws v (hl ▸ hx)
  | prohibited =>
    rw [hl] at h
    unfold prohibitedWrite at h
    dsimp only at h
    split at h
    · cases h; exact readsAsBefore_store rfl rfl rfl fun x _ => stored_of_eq s s.draws _ x
    · cases h; exact readsAsBefore_store rfl rfl rfl fun x _ => stored_of_eq s s.draws _ x
    · cases h
  | iflag =>
    rw [hl] at h; cases h
    refine readsAsBefore_store rfl rfl rfl fun x hx => ?_
    rw [hl] at hx
    cases x with
    | iflag => exact absurd rfl hx
    | ext t => cases t <;> rfl
    | _ => rfl
  | dma =>
    rw [hl] at h
    unfold startDma at h
    dsimp only at h
    split at h
    · cases h
    · cases h
      refine readsAsBefore_store rfl rfl rfl fun x hx => ?_
      rw [hl] at hx
      cases x with
      | dma => exact absurd rfl hx
      | ext t => cases t <;> rfl
      | _ => rfl
  | svbk =>
    rw [hl] at h; cases h
    refine readsAsBefore_of rfl fun b hb => ?_
    have hb' : ¬((0xD000 ≤ b.toNat ∧ b.toNat < 0xE000) ∨ (0xF000 ≤ b.toNat ∧ b.toNat < 0xFE00)) :=
      fun hc => hb (.inr (.inr ⟨hl, hc⟩))
    have hlow : ∀ off, off < 0x1000 →
        State.wramOffset { s with svbk := v.extractLsb' 0 3 } off = s.wramOffset off := fun off ho => by
      unfold State.wramOffset; rw [if_pos ho, if_pos ho]
    refine ⟨locate_congr b rfl (fun _ => rfl) (fun _ _ => rfl) (fun _ _ => hlow _ (by omega))
      (fun _ _ => hlow _ (by omega)), ?_⟩
    cases he : s.locate b with
    | svbk => exact absurd (.inl (he.trans hl.symm)) hb
    | ext t => cases t <;> rfl
    | _ => rfl
  | io =>
    rw [hl] at h
    unfold ioWrite at h
    dsimp only at h
    split at h
    · cases h
    · cases h; exact readsAsBefore_store rfl rfl rfl fun x _ => stored_of_eq s s.draws _ x
  | hram off =>
    rw [hl] at h; cases h
    refine readsAsBefore_store rfl rfl rfl fun x hx => ?_
    rw [hl] at hx
    cases x with
    | hram o => exact congrArg some (Memory.read_write_other _ v fun e => hx (by rw [e]))
    | ext t => cases t <;> rfl
    | _ => rfl
  | ie =>
    rw [hl] at h; cases h
    refine readsAsBefore_store rfl rfl rfl fun x hx => ?_
    rw [hl] at hx
    cases x with
    | ie => exact absurd rfl hx
    | ext t => cases t <;> rfl
    | _ => rfl

/-- Plain storage holds the byte written to it. -/
theorem busWrite_plain {a : Addr} {v : Byte} {s t : State} (hp : s.plain a = true) (h : busWrite a v s = .ok () t) :
    t.peek a = some v := by
  unfold State.plain at hp
  unfold busWrite at h
  cases hl : s.locate a with
  | vram off =>
    rw [hl] at h hp
    have hb : s.params.videoBusBlocking = false := by simpa using hp
    simp only [videoStore, State.videoDrawn, hb] at h
    cases h
    have hl' := (locate_eq (t := { s with vram := s.vram.write off v }) (s := s) a rfl rfl rfl).trans hl
    simp [State.peek, hl', hb]
  | oam off =>
    rw [hl] at h hp
    have hb : s.params.videoBusBlocking = false := by simpa using hp
    simp only [videoStore, State.videoDrawn, hb] at h
    cases h
    have hl' := (locate_eq (t := { s with oam := s.oam.write off v }) (s := s) a rfl rfl rfl).trans hl
    simp [State.peek, hl', hb]
  | ext tg =>
    cases tg with
    | ram off =>
      rw [hl] at h; cases h
      have hl' := (locate_eq (t := { s with cartRam := s.cartRam.write off v }) (s := s) a rfl rfl rfl).trans hl
      simp [State.peek, extWrite, hl']
    | _ => simp [hl] at hp
  | wram off =>
    rw [hl] at h; cases h
    have hl' := (locate_eq (t := { s with wram := s.wram.write off v }) (s := s) a rfl rfl rfl).trans hl
    simp [State.peek, hl']
  | hram off =>
    rw [hl] at h; cases h
    have hl' := (locate_eq (t := { s with hram := s.hram.write off v }) (s := s) a rfl rfl rfl).trans hl
    simp [State.peek, hl']
  | _ => simp [hl] at hp

/-! ## A CPU transaction that completes -/

/-- What a completed CPU write is, in the terms of the statements. -/
theorem writes_of {a : Addr} {v : Byte} {s t : State} (h : memWrite a v s = .ok () t) : s.writes a v t := by
  have hb : busWrite a v s = .ok () t := by
    unfold memWrite at h
    split at h
    · cases h
    · exact h
  exact ⟨h, memWrite_onlyBus h, busWrite_readsAsBefore hb, fun hp => busWrite_plain hp hb⟩

/-- A CPU write completes where it raises no fault. -/
theorem memWrite_writes {a : Addr} {v : Byte} {s : State} (h : ¬s.writeFaults a v) : ∃ t, s.writes a v t := by
  obtain ⟨t, e⟩ := (memWrite_ok_iff a v s).2 h
  exact ⟨t, writes_of e⟩

/-- What a completed CPU read is, in the terms of the statements. -/
theorem reads_of {a : Addr} {v : Byte} {s u : State} (h : memRead a s = .ok v u) : s.reads a v u := by
  refine ⟨h, memRead_onlyReads h, fun w hw => ?_⟩
  have hb : busRead a s = .ok v u := by
    unfold memRead at h
    split at h
    · cases h
    · exact h
  rw [busRead_of_peek hw] at hb
  cases hb
  exact ⟨rfl, rfl⟩

/-- A CPU read completes where it raises no fault. -/
theorem memRead_reads {a : Addr} {s : State} (h : ¬s.readFaults a) : ∃ v u, s.reads a v u := by
  obtain ⟨v, u, e⟩ := (memRead_ok_iff a s).2 h
  exact ⟨v, u, reads_of e⟩

end Sys2Proof.Machine
end

