-- ==== Sys2Proof/Laws/Stable.lean ====
section
/-! SUPPORT. What every step keeps, said once: a property that the machine's few elementary updates keep is kept by
every step (spec 70_reset_and_hazards.md R720). An invariant is then proved by the elementary updates alone. -/

namespace Sys2Proof.Machine

/-- `P` holds between the elementary updates inside a step and `Q` between steps, where a fault may have been raised.
Each field is one elementary update of the machine. -/
structure Stable (P Q : State → Prop) : Prop where
  enter : ∀ {s}, Q s → s.mode ≠ .faulted → P s
  leave : ∀ {s}, P s → Q s
  /-- A register write that keeps F, or writes it with a zero low nibble (R105). -/
  regs : ∀ {s} (g : Regs), g.f = s.regs.f ∨ g.f &&& 0x0F = 0 → P s → P { s with regs := g }
  cycles : ∀ {s} (k : Nat), P s → P (s.addCycles k)
  control : ∀ {s} (ime eiPending haltBug : Bool) (opcodeAddr : Addr), P s →
    P { s with ime := ime, eiPending := eiPending, haltBug := haltBug, opcodeAddr := opcodeAddr }
  mode : ∀ {s} (m : Mode), m ≠ .faulted → P s → P { s with mode := m }
  raised : ∀ {s} (k : FaultInfo), P s → Q (s.raised k)
  busRead : ∀ {s u : State} {a : Addr} {v : Byte}, busRead a s = .ok v u → P s → P u
  busWrite : ∀ {s t : State} {a : Addr} {v : Byte}, busWrite a v s = .ok () t → P s → P t
  /-- A faulting bus write of the DMA register has stored its byte (R653). -/
  busWriteStop : ∀ {s : State} (v : Byte) (k : FaultInfo), P s → Q (State.raised { s with dmaReg := v } k)
  dmaDelay : ∀ {s : State}, P s → s.dma.active = true → 0 < s.dma.delay →
    P { s with dma := { s.dma with delay := s.dma.delay - 1 } }
  dmaStore : ∀ {s : State} (v : Byte), P s → s.dma.active = true → s.dma.delay = 0 → P (s.dmaStore v)
  iflag : ∀ {s : State} (v : BitVec 5), P s → P { s with iflag := v }
  rtcTick : ∀ {s : State}, P s → P { s with cart := s.cart.rtcTick }
  schedule : ∀ {s : State} (l : List (List EnvMove)), P s → P { s with schedule := l }

/-- `P` of the state an operation leaves, or `Q` where it raised a fault. -/
def Res.Sat {α : Type} (P Q : State → Prop) : Res α → Prop
  | .ok _ t => P t
  | .stop t => Q t

theorem Res.Sat.bind {α β : Type} {P Q : State → Prop} {r : Res α} {f : α → State → Res β} (hr : r.Sat P Q)
    (hf : ∀ a t, P t → (f a t).Sat P Q) : (r.bind f).Sat P Q := by
  cases r with
  | ok a t => exact hf a t hr
  | stop t => exact hr

/-- `Q` of the next state, where there is one. -/
def Keeps (Q : State → Prop) (o : Outcome) : Prop := ∀ t, o = .next t → Q t

theorem Keeps.next {Q : State → Prop} {t : State} (h : Q t) : Keeps Q (.next t) := fun u e => by
  cases e; exact h

theorem Keeps.fault {Q : State → Prop} (r : Fault) : Keeps Q (.fault r) := fun u e => by cases e

theorem Keeps.refused {Q : State → Prop} (r : Refusal) : Keeps Q (.refused r) := fun u e => by cases e

@[simp] theorem flagByte_low (z n h c : Bool) : flagByte z n h c &&& 0x0F = 0 := by
  cases z <;> cases n <;> cases h <;> cases c <;> decide

theorem high_nibble_low (v : Byte) : v &&& 0xF0 &&& 0x0F = 0 := by
  rw [BitVec.and_assoc]
  have : (0xF0#8 &&& 0x0F#8) = 0#8 := by decide
  exact (congrArg (v &&& ·) this).trans BitVec.and_zero

namespace Stable

variable {P Q : State → Prop} (S : Stable P Q)
include S

/-! ## Register updates -/

theorem setR8 {s : State} (r : R8) (v : Byte) (h : P s) : P (s.setR8 r v) :=
  S.regs _ (.inl (by cases r <;> rfl)) h

theorem setPair {s : State} (p : Pair) (v : Addr) (h : P s) : P (s.setPair p v) :=
  S.regs _ (.inl (by cases p <;> rfl)) h

theorem setStackPair {s : State} (p : StackPair) (v : Addr) (h : P s) :
    P { s with regs := s.regs.setStackPair p v } :=
  S.regs _ (.inl (by cases p <;> rfl)) h

theorem setSp {s : State} (v : Addr) (h : P s) : P (s.setSp v) := S.regs _ (.inl rfl) h

theorem setPc {s : State} (v : Addr) (h : P s) : P (s.setPc v) := S.regs _ (.inl rfl) h

theorem setF {s : State} (v : Byte) (h : P s) : P (s.setF v) := S.regs _ (.inr (high_nibble_low v)) h

theorem setFlags {s : State} (z n hc c : Bool) (h : P s) : P (s.setFlags z n hc c) :=
  S.regs _ (.inr (flagByte_low z n hc c)) h

theorem alu {s : State} (op : AluOp) (v : Byte) (h : P s) : P (s.alu op v) := by
  cases op
  case cp => exact S.setFlags _ _ _ _ h
  all_goals exact S.setFlags _ _ _ _ (S.setR8 _ _ h)

/-! ## Operations -/

theorem busRead_sat (a : Addr) {s : State} (h : P s) : (Machine.busRead a s).Sat P Q := by
  rcases busRead_cases a s with ⟨v, t, e, -⟩ | ⟨k, e⟩
  · rw [e]; exact S.busRead e h
  · rw [e]; exact S.raised k h

theorem memRead_sat (a : Addr) {s : State} (h : P s) : (memRead a s).Sat P Q := by
  unfold memRead
  split
  · exact S.raised _ h
  · exact S.busRead_sat a h

theorem memWrite_sat (a : Addr) (v : Byte) {s : State} (h : P s) : (memWrite a v s).Sat P Q := by
  unfold memWrite
  split
  · exact S.raised _ h
  · rcases busWrite_cases a v s with ⟨t, e, -⟩ | ⟨k, e⟩ | ⟨k, e⟩
    · rw [e]; exact S.busWrite e h
    · rw [e]; exact S.raised k h
    · rw [e]; exact S.busWriteStop v k h

theorem pushByte_sat (v : Byte) {s : State} (h : P s) : (pushByte v s).Sat P Q := S.memWrite_sat _ _ (S.setSp _ h)

theorem popByte_sat {s : State} (h : P s) : (popByte s).Sat P Q :=
  (S.memRead_sat _ h).bind fun _ _ h => S.setSp _ h

theorem push16_sat (v : Addr) {s : State} (h : P s) : (push16 v s).Sat P Q :=
  (S.pushByte_sat _ h).bind fun _ _ h => S.pushByte_sat _ h

theorem pop16_sat {s : State} (h : P s) : (pop16 s).Sat P Q :=
  (S.popByte_sat h).bind fun _ _ h => (S.popByte_sat h).bind fun _ _ h => h

theorem fetch8_sat {s : State} (h : P s) : (fetch8 s).Sat P Q :=
  (S.memRead_sat _ h).bind fun _ _ h => S.setPc _ h

theorem fetchOpcode_sat {s : State} (h : P s) : (fetchOpcode s).Sat P Q :=
  (S.memRead_sat _ h).bind fun _ t h => by
    dsimp only
    split
    · exact S.control t.ime t.eiPending false _ h
    · exact S.setPc _ (S.control t.ime t.eiPending t.haltBug _ h)

theorem fetchInstr_sat {s : State} (h : P s) : (fetchInstr s).Sat P Q :=
  (S.fetchOpcode_sat h).bind fun _ _ h => by
    split
    · exact h
    · refine (S.fetch8_sat h).bind fun _ _ h => ?_
      split
      · exact h
      · exact (S.fetch8_sat h).bind fun _ _ h => h

theorem readOpd_sat (o : Opd) {s : State} (h : P s) : (readOpd o s).Sat P Q := by
  cases o with
  | reg r => exact h
  | indHl => exact S.memRead_sat _ h

theorem writeOpd_sat (o : Opd) (v : Byte) {s : State} (h : P s) : (writeOpd o v s).Sat P Q := by
  cases o with
  | reg r => exact S.setR8 _ _ h
  | indHl => exact S.memWrite_sat _ _ h

theorem takeInterrupt_sat {s : State} (h : P s) : (takeInterrupt s).Sat P Q := by
  unfold takeInterrupt
  refine Res.Sat.bind (S.pushByte_sat _ (S.control false false false s.opcodeAddr h)) fun _ _ h => ?_
  refine Res.Sat.bind (S.pushByte_sat _ h) fun _ _ h => ?_
  refine S.cycles _ ?_
  unfold State.enterVector
  split
  · exact S.setPc _ h
  · exact S.setPc _ (S.iflag _ h)

theorem returnFromInterrupt_sat {s : State} (h : P s) : (returnFromInterrupt s).Sat P Q :=
  (S.pop16_sat h).bind fun v t h =>
    S.control true (t.setPc v).eiPending (t.setPc v).haltBug (t.setPc v).opcodeAddr (S.setPc v h)

theorem dmaTick_sat {s : State} (h : P s) : (dmaTick s).Sat P Q := by
  unfold dmaTick
  split
  · rename_i ha
    split
    · exact S.dmaDelay h ha ‹_›
    · rename_i hd
      rcases busRead_cases s.dmaSource s with ⟨v, t, e, hr⟩ | ⟨k, e⟩
      · rw [e]
        have ht : t.dma = s.dma := by rw [hr]
        exact S.dmaStore v (S.busRead e h) (by rw [ht]; exact ha) (by rw [ht]; exact Nat.eq_zero_of_not_pos hd)
      · rw [e]; exact S.raised k h
  · exact h

theorem dmaTicks_sat (n : Nat) {s : State} (h : P s) : (dmaTicks n s).Sat P Q := by
  induction n generalizing s with
  | zero => exact h
  | succ n ih => exact (S.dmaTick_sat h).bind fun _ _ h => ih h

/-! ## Instructions -/

theorem finish {r : Res Unit} (k : Nat) (h : r.Sat P Q) : Keeps Q (r.finish k) := by
  cases r with
  | ok _ t => exact .next (S.leave (S.cycles k h))
  | stop t => exact .next h

theorem outcome {r : Res Unit} (h : r.Sat P Q) : Keeps Q r.outcome := by
  cases r with
  | ok _ t => exact .next (S.leave h)
  | stop t => exact .next h

theorem done {s : State} (k : Nat) (h : P s) : Keeps Q (.next (s.addCycles k)) := .next (S.leave (S.cycles k h))

theorem loadFrom (dst : R8) (a : Addr) (k : Nat) {s : State} (h : P s) : Keeps Q (Machine.loadFrom dst a k s) :=
  S.finish k ((S.memRead_sat a h).bind fun _ _ h => S.setR8 _ _ h)

theorem storeTo (a : Addr) (v : Byte) (k : Nat) {s : State} (h : P s) : Keeps Q (Machine.storeTo a v k s) :=
  S.finish k (S.memWrite_sat a v h)

theorem loadMoveHl (d : Addr) {s : State} (h : P s) : Keeps Q (Machine.loadMoveHl d s) :=
  S.finish 2 ((S.memRead_sat _ h).bind fun _ _ h => S.setPair _ _ (S.setR8 _ _ h))

theorem storeMoveHl (d : Addr) {s : State} (h : P s) : Keeps Q (Machine.storeMoveHl d s) :=
  S.finish 2 ((S.memWrite_sat _ _ h).bind fun _ _ h => S.setPair _ _ h)

theorem pushValue (v : Addr) {s : State} (h : P s) : Keeps Q (Machine.pushValue v s) := S.finish 4 (S.push16_sat v h)

theorem aluOpd (op : AluOp) (o : Opd) {s : State} (h : P s) : Keeps Q (Machine.aluOpd op o s) :=
  S.finish _ ((S.readOpd_sat o h).bind fun _ _ h => S.alu op _ h)

theorem rotateA (op : ShiftOp) {s : State} (h : P s) : Keeps Q (Machine.rotateA op s) :=
  S.done 1 (S.setFlags _ _ _ _ (S.setR8 _ _ h))

theorem shiftOpd (op : ShiftOp) (o : Opd) {s : State} (h : P s) : Keeps Q (Machine.shiftOpd op o s) :=
  S.finish _ ((S.readOpd_sat o h).bind fun _ _ h => (S.writeOpd_sat o _ h).bind fun _ _ h => S.setFlags _ _ _ _ h)

theorem bitOpd (b : Fin 8) (o : Opd) {s : State} (h : P s) : Keeps Q (Machine.bitOpd b o s) :=
  S.finish _ ((S.readOpd_sat o h).bind fun _ _ h => S.setFlags _ _ _ _ h)

theorem resOpd (b : Fin 8) (o : Opd) {s : State} (h : P s) : Keeps Q (Machine.resOpd b o s) :=
  S.finish _ ((S.readOpd_sat o h).bind fun _ _ h => S.writeOpd_sat o _ h)

theorem setOpd (b : Fin 8) (o : Opd) {s : State} (h : P s) : Keeps Q (Machine.setOpd b o s) :=
  S.finish _ ((S.readOpd_sat o h).bind fun _ _ h => S.writeOpd_sat o _ h)

theorem jumpTo (t : Addr) (k : Nat) {s : State} (h : P s) : Keeps Q (Machine.jumpTo t k s) := S.done k (S.setPc t h)

theorem callTo (t : Addr) (k : Nat) {s : State} (h : P s) : Keeps Q (Machine.callTo t k s) :=
  S.finish k ((S.push16_sat _ h).bind fun _ _ h => S.setPc t h)

theorem returnFrom (k : Nat) {s : State} (h : P s) : Keeps Q (Machine.returnFrom k s) :=
  S.finish k ((S.pop16_sat h).bind fun _ _ h => S.setPc _ h)

/-- Every instruction keeps it. -/
theorem exec (i : Instr) {s : State} (h : P s) : Keeps Q (Machine.exec i s) := by
  induction i using instr_family_cases with
  | h_ldRR dst src => rw [exec_ldRR]; exact S.done 1 (S.setR8 _ _ h)
  | h_ldRN dst n => rw [exec_ldRN]; exact S.done 2 (S.setR8 _ _ h)
  | h_ldRIndHl dst => rw [exec_ldRIndHl]; exact S.loadFrom _ _ _ h
  | h_ldIndHlR src => rw [exec_ldIndHlR]; exact S.storeTo _ _ _ h
  | h_aluO op o => rw [exec_aluO]; exact S.aluOpd op o h
  | h_aluN op n => rw [exec_aluN]; exact S.done 2 (S.alu op n h)
  | h_incO o =>
    rw [exec_incO]
    exact S.finish _ ((S.readOpd_sat o h).bind fun _ _ h => (S.writeOpd_sat o _ h).bind fun _ _ h =>
      S.setFlags _ _ _ _ h)
  | h_decO o =>
    rw [exec_decO]
    exact S.finish _ ((S.readOpd_sat o h).bind fun _ _ h => (S.writeOpd_sat o _ h).bind fun _ _ h =>
      S.setFlags _ _ _ _ h)
  | h_ldPairN p n => rw [exec_ldPairN]; exact S.done 3 (S.setPair _ _ h)
  | h_incPair p => rw [exec_incPair]; exact S.done 2 (S.setPair _ _ h)
  | h_decPair p => rw [exec_decPair]; exact S.done 2 (S.setPair _ _ h)
  | h_addHl p => rw [exec_addHl]; exact S.done 2 (S.setPair _ _ (S.setFlags _ _ _ _ h))
  | h_push p => rw [exec_push]; exact S.pushValue _ h
  | h_pop p => rw [exec_pop]; exact S.finish 3 ((S.pop16_sat h).bind fun _ _ h => S.setStackPair _ _ h)
  | h_jpCc cc n => rw [exec_jpCc]; unfold jpIf; split; exacts [S.jumpTo _ _ h, S.done _ h]
  | h_jrCc cc e => rw [exec_jrCc]; unfold jrIf; split; exacts [S.jumpTo _ _ h, S.done _ h]
  | h_callCc cc n => rw [exec_callCc]; unfold callIf; split; exacts [S.callTo _ _ h, S.done _ h]
  | h_retCc cc => rw [exec_retCc]; unfold retIf; split; exacts [S.returnFrom _ h, S.done _ h]
  | h_rst y => rw [exec_rst]; exact S.callTo _ _ h
  | h_shiftO op o => rw [exec_shiftO]; exact S.shiftOpd op o h
  | h_bitO b o => rw [exec_bitO]; exact S.bitOpd b o h
  | h_resO b o => rw [exec_resO]; exact S.resOpd b o h
  | h_setO b o => rw [exec_setO]; exact S.setOpd b o h
  | h_nop => exact S.done 1 h
  | h_ldIndBcA => exact S.storeTo _ _ _ h
  | h_rlca => exact S.rotateA _ h
  | h_ldIndN16Sp n => exact S.finish 5 ((S.memWrite_sat _ _ h).bind fun _ _ h => S.memWrite_sat _ _ h)
  | h_ldAIndBc => exact S.loadFrom _ _ _ h
  | h_rrca => exact S.rotateA _ h
  | h_stop n =>
    show Keeps Q (execStop n s)
    unfold execStop
    split
    · exact .next (S.raised _ h)
    · exact S.done 1 (S.mode .stopped (by decide) h)
  | h_ldIndDeA => exact S.storeTo _ _ _ h
  | h_rla => exact S.rotateA _ h
  | h_jrE8 e => exact S.jumpTo _ _ h
  | h_ldAIndDe => exact S.loadFrom _ _ _ h
  | h_rra => exact S.rotateA _ h
  | h_ldIndHlIncA => exact S.storeMoveHl _ h
  | h_daa => exact S.done 1 (S.setFlags _ _ _ _ (S.setR8 _ _ h))
  | h_ldAIndHlInc => exact S.loadMoveHl _ h
  | h_cpl => exact S.done 1 (S.setFlags _ _ _ _ (S.setR8 _ _ h))
  | h_ldIndHlDecA => exact S.storeMoveHl _ h
  | h_ldIndHlN8 n => exact S.storeTo _ _ _ h
  | h_scf => exact S.done 1 (S.setFlags _ _ _ _ h)
  | h_ldAIndHlDec => exact S.loadMoveHl _ h
  | h_ccf => exact S.done 1 (S.setFlags _ _ _ _ h)
  | h_halt =>
    refine S.done 1 ?_
    unfold State.haltOrBug
    split
    · exact S.mode .halted (by decide) h
    · exact S.control s.ime s.eiPending true s.opcodeAddr h
  | h_jpN16 n => exact S.jumpTo _ _ h
  | h_ret => exact S.returnFrom _ h
  | h_prefixCb op2 =>
    show Keeps Q (cbEntry op2 s)
    unfold cbEntry
    dsimp only
    split
    exacts [S.shiftOpd _ _ h, S.bitOpd _ _ h, S.resOpd _ _ h, S.setOpd _ _ h]
  | h_callN16 n => exact S.callTo _ _ h
  | h_reti => exact S.finish 4 (S.returnFromInterrupt_sat h)
  | h_ldhIndN8A n => exact S.storeTo _ _ _ h
  | h_ldhIndCA => exact S.storeTo _ _ _ h
  | h_addSpE8 e => exact S.done 4 (S.setSp _ (S.setFlags _ _ _ _ h))
  | h_jpHl => exact S.jumpTo _ _ h
  | h_ldIndN16A n => exact S.storeTo _ _ _ h
  | h_ldhAIndN8 n => exact S.loadFrom _ _ _ h
  | h_popAf => exact S.finish 3 ((S.pop16_sat h).bind fun _ _ h => S.setF _ (S.setR8 _ _ h))
  | h_ldhAIndC => exact S.loadFrom _ _ _ h
  | h_di => exact S.done 1 (S.control false false s.haltBug s.opcodeAddr h)
  | h_pushAf => exact S.pushValue _ h
  | h_ldHlSpE8 e => exact S.done 3 (S.setPair _ _ (S.setFlags _ _ _ _ h))
  | h_ldSpHl => exact S.done 2 (S.setSp _ h)
  | h_ldAIndN16 n => exact S.loadFrom _ _ _ h
  | h_ei => exact S.done 1 (S.control s.ime true s.haltBug s.opcodeAddr h)
  | h_illegal p hp => rw [exec_illegal hp]; exact .next (S.raised _ h)

/-! ## The step -/

theorem envMove (m : EnvMove) {s : State} (h : P s) : P (m.apply s) := by
  cases m with
  | raiseInterrupt i => exact S.iflag _ h
  | rtcTick => exact S.rtcTick h
  | wake =>
    unfold EnvMove.apply
    dsimp only
    split
    · exact S.mode .running (by decide) h
    · exact h

theorem envMoves (l : List EnvMove) {s : State} (h : P s) : P (l.foldl EnvMove.apply s) := by
  induction l generalizing s with
  | nil => exact h
  | cons m l ih => exact ih (S.envMove m h)

theorem takeEnv {s : State} (h : P s) : P s.takeEnv := by
  unfold State.takeEnv
  split
  · exact h
  · exact S.envMoves _ (S.schedule _ h)

theorem promote {s : State} (b : Bool) (h : P s) : P (s.promote b) := by
  unfold State.promote
  split
  · exact S.control true false s.haltBug s.opcodeAddr h
  · exact h

theorem afterInstr {s t : State} (h : Q t) : Keeps Q (Machine.afterInstr s t) := by
  unfold Machine.afterInstr
  split
  · exact .next h
  · exact S.outcome (S.dmaTicks_sat _ (S.promote _ (S.enter h ‹_›)))

theorem activeStep {s : State} (h : P s) : Keeps Q (Machine.activeStep s) := by
  unfold Machine.activeStep
  split
  · exact S.outcome ((S.takeInterrupt_sat h).bind fun _ _ h => S.dmaTicks_sat _ h)
  · unfold instrStep
    have hf := S.fetchInstr_sat h
    split
    · rename_i e; rw [e] at hf; exact .next hf
    · rename_i i t e
      rw [e] at hf
      have he := S.exec i hf
      split
      · rename_i e'; exact S.afterInstr (he _ e')
      · exact .fault _
      · exact .refused _

/-- Every step keeps it. -/
theorem step {s t : State} (h : Q s) (e : Machine.step s = .next t) : Q t := by
  suffices Keeps Q (Machine.step s) from this t e
  unfold Machine.step boundaryStep
  split
  · exact .fault _
  · have hp := S.takeEnv (S.enter h ‹_›)
    unfold cpuStep
    split
    · exact .fault _
    · exact S.done 1 hp
    · split
      · exact S.outcome (S.dmaTicks_sat 1 (S.cycles 1 hp))
      · exact S.activeStep (S.mode .running (by decide) hp)
    · exact S.activeStep hp

end Stable

end Sys2Proof.Machine
end

