-- ==== Sys2Proof/Laws/Ops.lean ====
section
/-! SUPPORT. What the shared operations do where they complete, once each: two writes in a row, push, pop, operand
access, the fetch, and that every instruction answers a next state. -/

namespace Sys2Proof.Machine

/-! ## Whether a later transaction faults -/

theorem readFaults_congr {s t : State} (hp : t.params = s.params) (hd : t.dma.active = s.dma.active) (a : Addr) :
    t.readFaults a ↔ s.readFaults a := by
  unfold State.readFaults State.conflicts; rw [hp, hd]

theorem writeFaults_congr {s t : State} (hp : t.params = s.params) (hd : t.dma.active = s.dma.active) (a : Addr)
    (v : Byte) : t.writeFaults a v ↔ s.writeFaults a v := by
  unfold State.writeFaults; rw [readFaults_congr hp hd, hp]

theorem reads_congr {s u : State} {a : Addr} {v : Byte} (h : s.reads a v u) :
    u = { s with history := u.history, draws := u.draws } := h.2.1

theorem reads_regs {s u : State} {a : Addr} {v : Byte} (h : s.reads a v u) : u.regs = s.regs := by
  rw [reads_congr h]

theorem reads_params {s u : State} {a : Addr} {v : Byte} (h : s.reads a v u) : u.params = s.params := by
  rw [reads_congr h]

theorem reads_dma {s u : State} {a : Addr} {v : Byte} (h : s.reads a v u) : u.dma = s.dma := by
  rw [reads_congr h]

theorem reads_cycles {s u : State} {a : Addr} {v : Byte} (h : s.reads a v u) : u.cycles = s.cycles := by
  rw [reads_congr h]

theorem writes_regs {s t : State} {a : Addr} {v : Byte} (h : s.writes a v t) : t.regs = s.regs := by
  rw [h.2.1]

theorem writes_params {s t : State} {a : Addr} {v : Byte} (h : s.writes a v t) : t.params = s.params := by
  rw [h.2.1]

theorem writes_cycles {s t : State} {a : Addr} {v : Byte} (h : s.writes a v t) : t.cycles = s.cycles := by
  rw [h.2.1]

/-- A bus write to another address than the DMA register leaves the sequencer alone. -/
theorem busWrite_dma {s t : State} {a : Addr} {v : Byte} (ha : a ≠ 0xFF46) (h : busWrite a v s = .ok () t) :
    t.dma = s.dma := by
  unfold busWrite at h
  cases hl : s.locate a with
  | dma => exact absurd ((locate_dma_iff s a).1 hl) ha
  | ext tg => rw [hl] at h; cases h; cases tg <;> rfl
  | vram off => rw [hl] at h; cases h; unfold State.videoDrawn; dsimp only; split <;> rfl
  | oam off => rw [hl] at h; cases h; unfold State.videoDrawn; dsimp only; split <;> rfl
  | echoFault => rw [hl] at h; cases h
  | prohibited =>
    rw [hl] at h; unfold prohibitedWrite at h; dsimp only at h; split at h
    · cases h; rfl
    · cases h; rfl
    · cases h
  | io =>
    rw [hl] at h; unfold ioWrite at h; dsimp only at h; split at h
    · cases h
    · cases h; rfl
  | _ => rw [hl] at h; cases h; rfl

theorem writes_dma {s t : State} {a : Addr} {v : Byte} (ha : a ≠ 0xFF46) (h : s.writes a v t) : t.dma = s.dma := by
  have h := h.1
  unfold memWrite at h
  split at h
  · cases h
  · exact busWrite_dma ha h

/-- The second of two writes faults where the statement of the pair says. -/
theorem writePair_second {s t : State} {a b : Addr} {v w : Byte} (h : s.writes a v t)
    (hf : ¬s.writePairFaults a v b w) : ¬t.writeFaults b w := by
  unfold State.writePairFaults at hf
  by_cases ha : a = 0xFF46
  · have hb : 0xFF80 ≤ b.toNat ∧ b.toNat ≤ 0xFFFE := by
      by_contra hb; exact hf (.inr (.inr ⟨ha, hb⟩))
    intro hw
    refine hf (.inr (.inl ?_))
    have hp := writes_params h
    unfold State.writeFaults State.readFaults State.conflicts at hw ⊢
    rw [hp] at hw
    rcases hw with (hw | hw) | hw
    · exact absurd hb hw.2
    · exact .inl (.inr hw)
    · exact .inr hw
  · rw [writeFaults_congr (writes_params h) (by rw [writes_dma ha h])]
    exact fun hw => hf (.inr (.inl hw))

/-- Two writes in a row complete where the pair raises no fault, whatever the registers do in between. -/
theorem writePair_ok {s : State} {a b : Addr} {v w : Byte} (h : ¬s.writePairFaults a v b w) :
    ∃ u, s.writes a v u ∧ ∀ g : Regs, ∃ t, State.writes { u with regs := g } b w t := by
  obtain ⟨u, hu⟩ := memWrite_writes (s := s) fun hf => h (.inl hf)
  have h2 : ¬u.writeFaults b w := writePair_second hu h
  exact ⟨u, hu, fun g => memWrite_writes (s := { u with regs := g }) h2⟩

/-! ## The stack -/

theorem sub_one_sub_one (x : Addr) : x - 1 - 1 = x - 2 := by bv_omega

theorem add_one_add_one (x : Addr) : x + 1 + 1 = x + 2 := by bv_omega

/-- `Push16` completes where the pair of writes raises no fault. -/
theorem push16_ok {s : State} {v : Addr} (h : ¬s.pushFaults v) :
    ∃ u t, (s.setSp (s.regs.sp - 1)).writes (s.regs.sp - 1) (hi8 v) u
      ∧ (u.setSp (s.regs.sp - 2)).writes (s.regs.sp - 2) (lo8 v) t
      ∧ push16 v s = .ok () t ∧ t.regs = { s.regs with sp := s.regs.sp - 2 } ∧ t.cycles = s.cycles := by
  obtain ⟨u, hu, hs⟩ := writePair_ok (s := s.setSp (s.regs.sp - 1)) h
  obtain ⟨t, ht⟩ := hs { u.regs with sp := s.regs.sp - 2 }
  have hr : u.regs = { s.regs with sp := s.regs.sp - 1 } := writes_regs hu
  refine ⟨u, t, hu, ht, ?_, ?_, ?_⟩
  · unfold push16 pushByte
    rw [hu.1]
    show memWrite (u.regs.sp - 1) (lo8 v) (u.setSp (u.regs.sp - 1)) = _
    rw [hr]
    dsimp only
    rw [sub_one_sub_one]
    exact ht.1
  · rw [writes_regs ht]; dsimp only; rw [hr]
  · have hc := writes_cycles hu
    rw [writes_cycles ht]; exact hc

/-- `Pop16` completes where neither read raises a fault. -/
theorem pop16_ok {s : State} (h : ¬s.popFaults) :
    ∃ v t, s.pops v t ∧ pop16 s = .ok v t ∧ t.regs = { s.regs with sp := s.regs.sp + 2 } ∧ t.cycles = s.cycles := by
  obtain ⟨lo, u, hu⟩ := memRead_reads (s := s) fun hf => h (.inl hf)
  have hp : u.params = s.params := reads_params hu
  have hd : u.dma.active = s.dma.active := by rw [reads_dma hu]
  have hf : ¬(u.setSp (s.regs.sp + 1)).readFaults (s.regs.sp + 1) := fun hf =>
    h (.inr ((readFaults_congr (s := s) (t := u.setSp (s.regs.sp + 1)) hp hd _).1 hf))
  obtain ⟨hi, w, hw⟩ := memRead_reads hf
  have hr : w.regs = { s.regs with sp := s.regs.sp + 1 } := by
    rw [reads_regs hw, State.setSp_regs, reads_regs hu]
  refine ⟨hi ++ lo, w.setSp (s.regs.sp + 2), ⟨lo, hi, u, w, hu, hw, rfl, rfl⟩, ?_, ?_, ?_⟩
  · unfold pop16 popByte
    rw [hu.1]
    show Res.bind (Res.bind (memRead (u.setSp (u.regs.sp + 1)).regs.sp (u.setSp (u.regs.sp + 1))) _) _ = _
    rw [reads_regs hu]
    show Res.bind (Res.bind (memRead (s.regs.sp + 1) (u.setSp (s.regs.sp + 1))) _) _ = _
    rw [hw.1]
    show Res.ok (join hi lo) (w.setSp (w.regs.sp + 1)) = _
    rw [hr]
    dsimp only
    rw [add_one_add_one]
    rfl
  · rw [State.setSp_regs, hr]
  · have hc := reads_cycles hw
    have hc' := reads_cycles hu
    exact hc.trans hc'

/-! ## Operands -/

theorem readOpd_ok {s : State} {o : Opd} (h : ¬s.opdReadFaults o) :
    ∃ v u, s.opdReads o v u ∧ readOpd o s = .ok v u ∧ u.regs = s.regs ∧ u.cycles = s.cycles := by
  cases o with
  | reg r => exact ⟨_, s, ⟨rfl, rfl⟩, rfl, rfl, rfl⟩
  | indHl =>
    obtain ⟨v, u, hu⟩ := memRead_reads (s := s) fun hf => h ⟨rfl, hf⟩
    exact ⟨v, u, hu, hu.1, reads_regs hu, reads_cycles hu⟩

theorem peek_dma (s : State) : s.peek 0xFF46 = some s.dmaReg := rfl

/-- Reading an operand and writing a function of it back completes where the statement of the update says. -/
theorem updateOpd_ok {s : State} {o : Opd} (f : Byte → Byte) (h : ¬s.opdUpdateFaults o f) :
    ∃ v u w, s.opdReads o v u ∧ u.opdWrites o (f v) w ∧ readOpd o s = .ok v u ∧ writeOpd o (f v) u = .ok () w
      ∧ u.regs = s.regs ∧ w.regs.f = s.regs.f ∧ w.cycles = s.cycles ∧ (o = .indHl → w.regs = s.regs) := by
  cases o with
  | reg r =>
    exact ⟨_, s, s.setR8 r (f (s.regs.r8 r)), ⟨rfl, rfl⟩, rfl, rfl, rfl, rfl, by cases r <;> rfl, rfl,
      fun h => by cases h⟩
  | indHl =>
    have hw : ¬s.writeFaults s.regs.hl (f s.dmaReg) := fun hf => h ⟨rfl, hf⟩
    obtain ⟨v, u, hu⟩ := memRead_reads (s := s) fun hf => hw (.inl hf)
    have hf : ¬u.writeFaults s.regs.hl (f v) := by
      rw [writeFaults_congr (s := s) (reads_params hu) (by rw [reads_dma hu])]
      by_cases ha : s.regs.hl = 0xFF46
      · have := (hu.2.2 s.dmaReg (by rw [ha]; exact peek_dma s)).1
        rw [this]; exact hw
      · rintro (h | h | h)
        · exact hw (.inl h)
        · exact hw (.inr (.inl h))
        · exact ha h.1
    obtain ⟨t, ht⟩ := memWrite_writes hf
    refine ⟨v, u, t, hu, ?_, hu.1, ?_, reads_regs hu, ?_, ?_, fun _ => ?_⟩
    · show u.writes u.regs.hl (f v) t; rw [reads_regs hu]; exact ht
    · show memWrite u.regs.hl (f v) u = _; rw [reads_regs hu]; exact ht.1
    · rw [writes_regs ht, reads_regs hu]
    · rw [writes_cycles ht, reads_cycles hu]
    · rw [writes_regs ht, reads_regs hu]

/-! ## Every instruction answers a next state -/

theorem finish_next (r : Res Unit) (k : Nat) : ∃ t, r.finish k = .next t := by
  cases r <;> exact ⟨_, rfl⟩

theorem exec_next (i : Instr) (s : State) : ∃ t, exec i s = .next t := by
  induction i using instr_family_cases with
  | h_ldRR dst src => exact ⟨_, exec_ldRR ..⟩
  | h_ldRN dst n => exact ⟨_, exec_ldRN ..⟩
  | h_ldRIndHl dst => rw [exec_ldRIndHl]; exact finish_next _ _
  | h_ldIndHlR src => rw [exec_ldIndHlR]; exact finish_next _ _
  | h_aluO op o => rw [exec_aluO]; exact finish_next _ _
  | h_aluN op n => exact ⟨_, exec_aluN ..⟩
  | h_incO o => rw [exec_incO]; exact finish_next _ _
  | h_decO o => rw [exec_decO]; exact finish_next _ _
  | h_ldPairN p n => exact ⟨_, exec_ldPairN ..⟩
  | h_incPair p => exact ⟨_, exec_incPair ..⟩
  | h_decPair p => exact ⟨_, exec_decPair ..⟩
  | h_addHl p => exact ⟨_, exec_addHl ..⟩
  | h_push p => rw [exec_push]; exact finish_next _ _
  | h_pop p => rw [exec_pop]; exact finish_next _ _
  | h_jpCc cc n => rw [exec_jpCc]; unfold jpIf; split <;> exact ⟨_, rfl⟩
  | h_jrCc cc e => rw [exec_jrCc]; unfold jrIf; split <;> exact ⟨_, rfl⟩
  | h_callCc cc n => rw [exec_callCc]; unfold callIf; split; exacts [finish_next _ _, ⟨_, rfl⟩]
  | h_retCc cc => rw [exec_retCc]; unfold retIf; split; exacts [finish_next _ _, ⟨_, rfl⟩]
  | h_rst y => rw [exec_rst]; exact finish_next _ _
  | h_shiftO op o => rw [exec_shiftO]; exact finish_next _ _
  | h_bitO b o => rw [exec_bitO]; exact finish_next _ _
  | h_resO b o => rw [exec_resO]; exact finish_next _ _
  | h_setO b o => rw [exec_setO]; exact finish_next _ _
  | h_stop n =>
    show ∃ t, execStop n s = .next t
    unfold execStop; split <;> exact ⟨_, rfl⟩
  | h_prefixCb op2 =>
    show ∃ t, cbEntry op2 s = .next t
    unfold cbEntry; dsimp only; split <;> exact finish_next _ _
  | h_illegal p hp => exact ⟨_, exec_illegal hp s⟩
  | h_ldIndBcA => exact finish_next _ _
  | h_ldIndN16Sp n => exact finish_next _ _
  | h_ldAIndBc => exact finish_next _ _
  | h_ldIndDeA => exact finish_next _ _
  | h_ldAIndDe => exact finish_next _ _
  | h_ldIndHlIncA => exact finish_next _ _
  | h_ldAIndHlInc => exact finish_next _ _
  | h_ldIndHlDecA => exact finish_next _ _
  | h_ldIndHlN8 n => exact finish_next _ _
  | h_ldAIndHlDec => exact finish_next _ _
  | h_ret => exact finish_next _ _
  | h_callN16 n => exact finish_next _ _
  | h_reti => exact finish_next _ _
  | h_ldhIndN8A n => exact finish_next _ _
  | h_ldhIndCA => exact finish_next _ _
  | h_ldIndN16A n => exact finish_next _ _
  | h_ldhAIndN8 n => exact finish_next _ _
  | h_popAf => exact finish_next _ _
  | h_ldhAIndC => exact finish_next _ _
  | h_pushAf => exact finish_next _ _
  | h_ldAIndN16 n => exact finish_next _ _
  | _ => exact ⟨_, rfl⟩

end Sys2Proof.Machine
end

