-- ==== Sys2Proof/Laws/PerInstr.lean ====
section
/-! SUPPORT. One lemma per constructor, for statements over all instructions. The family `Encoding` says that an
instruction's words have the length that their first byte alone decides, at most three bytes (spec 30_encoding.md R300,
R304). -/

namespace Sys2Proof.Laws.Encoding

/-- The encoding's length is what its first byte says, and at most three bytes (R304). -/
def Statement (i : Instr) : Prop :=
  (encode i).length = opLength ((encode i).headD 0) ∧ (encode i).length ≤ 3

theorem ldBcN16 (n : Addr) : Statement (.ldBcN16 n) := ⟨rfl, Nat.le_of_ble_eq_true rfl⟩
theorem ldBN8 (n : Byte) : Statement (.ldBN8 n) := ⟨rfl, Nat.le_of_ble_eq_true rfl⟩
theorem ldIndN16Sp (n : Addr) : Statement (.ldIndN16Sp n) := ⟨rfl, Nat.le_of_ble_eq_true rfl⟩
theorem ldCN8 (n : Byte) : Statement (.ldCN8 n) := ⟨rfl, Nat.le_of_ble_eq_true rfl⟩
theorem stop (n : Byte) : Statement (.stop n) := ⟨rfl, Nat.le_of_ble_eq_true rfl⟩
theorem ldDeN16 (n : Addr) : Statement (.ldDeN16 n) := ⟨rfl, Nat.le_of_ble_eq_true rfl⟩
theorem ldDN8 (n : Byte) : Statement (.ldDN8 n) := ⟨rfl, Nat.le_of_ble_eq_true rfl⟩
theorem jrE8 (e : Byte) : Statement (.jrE8 e) := ⟨rfl, Nat.le_of_ble_eq_true rfl⟩
theorem ldEN8 (n : Byte) : Statement (.ldEN8 n) := ⟨rfl, Nat.le_of_ble_eq_true rfl⟩
theorem jrNzE8 (e : Byte) : Statement (.jrNzE8 e) := ⟨rfl, Nat.le_of_ble_eq_true rfl⟩
theorem ldHlN16 (n : Addr) : Statement (.ldHlN16 n) := ⟨rfl, Nat.le_of_ble_eq_true rfl⟩
theorem ldHN8 (n : Byte) : Statement (.ldHN8 n) := ⟨rfl, Nat.le_of_ble_eq_true rfl⟩
theorem jrZE8 (e : Byte) : Statement (.jrZE8 e) := ⟨rfl, Nat.le_of_ble_eq_true rfl⟩
theorem ldLN8 (n : Byte) : Statement (.ldLN8 n) := ⟨rfl, Nat.le_of_ble_eq_true rfl⟩
theorem jrNcE8 (e : Byte) : Statement (.jrNcE8 e) := ⟨rfl, Nat.le_of_ble_eq_true rfl⟩
theorem ldSpN16 (n : Addr) : Statement (.ldSpN16 n) := ⟨rfl, Nat.le_of_ble_eq_true rfl⟩
theorem ldIndHlN8 (n : Byte) : Statement (.ldIndHlN8 n) := ⟨rfl, Nat.le_of_ble_eq_true rfl⟩
theorem jrCE8 (e : Byte) : Statement (.jrCE8 e) := ⟨rfl, Nat.le_of_ble_eq_true rfl⟩
theorem ldAN8 (n : Byte) : Statement (.ldAN8 n) := ⟨rfl, Nat.le_of_ble_eq_true rfl⟩
theorem jpNzN16 (n : Addr) : Statement (.jpNzN16 n) := ⟨rfl, Nat.le_of_ble_eq_true rfl⟩
theorem jpN16 (n : Addr) : Statement (.jpN16 n) := ⟨rfl, Nat.le_of_ble_eq_true rfl⟩
theorem callNzN16 (n : Addr) : Statement (.callNzN16 n) := ⟨rfl, Nat.le_of_ble_eq_true rfl⟩
theorem addAN8 (n : Byte) : Statement (.addAN8 n) := ⟨rfl, Nat.le_of_ble_eq_true rfl⟩
theorem jpZN16 (n : Addr) : Statement (.jpZN16 n) := ⟨rfl, Nat.le_of_ble_eq_true rfl⟩
theorem prefixCb (op2 : Byte) : Statement (.prefixCb op2) := ⟨rfl, Nat.le_of_ble_eq_true rfl⟩
theorem callZN16 (n : Addr) : Statement (.callZN16 n) := ⟨rfl, Nat.le_of_ble_eq_true rfl⟩
theorem callN16 (n : Addr) : Statement (.callN16 n) := ⟨rfl, Nat.le_of_ble_eq_true rfl⟩
theorem adcAN8 (n : Byte) : Statement (.adcAN8 n) := ⟨rfl, Nat.le_of_ble_eq_true rfl⟩
theorem jpNcN16 (n : Addr) : Statement (.jpNcN16 n) := ⟨rfl, Nat.le_of_ble_eq_true rfl⟩
theorem callNcN16 (n : Addr) : Statement (.callNcN16 n) := ⟨rfl, Nat.le_of_ble_eq_true rfl⟩
theorem subN8 (n : Byte) : Statement (.subN8 n) := ⟨rfl, Nat.le_of_ble_eq_true rfl⟩
theorem jpCN16 (n : Addr) : Statement (.jpCN16 n) := ⟨rfl, Nat.le_of_ble_eq_true rfl⟩
theorem callCN16 (n : Addr) : Statement (.callCN16 n) := ⟨rfl, Nat.le_of_ble_eq_true rfl⟩
theorem sbcAN8 (n : Byte) : Statement (.sbcAN8 n) := ⟨rfl, Nat.le_of_ble_eq_true rfl⟩
theorem ldhIndN8A (n : Byte) : Statement (.ldhIndN8A n) := ⟨rfl, Nat.le_of_ble_eq_true rfl⟩
theorem andN8 (n : Byte) : Statement (.andN8 n) := ⟨rfl, Nat.le_of_ble_eq_true rfl⟩
theorem addSpE8 (e : Byte) : Statement (.addSpE8 e) := ⟨rfl, Nat.le_of_ble_eq_true rfl⟩
theorem ldIndN16A (n : Addr) : Statement (.ldIndN16A n) := ⟨rfl, Nat.le_of_ble_eq_true rfl⟩
theorem xorN8 (n : Byte) : Statement (.xorN8 n) := ⟨rfl, Nat.le_of_ble_eq_true rfl⟩
theorem ldhAIndN8 (n : Byte) : Statement (.ldhAIndN8 n) := ⟨rfl, Nat.le_of_ble_eq_true rfl⟩
theorem orN8 (n : Byte) : Statement (.orN8 n) := ⟨rfl, Nat.le_of_ble_eq_true rfl⟩
theorem ldHlSpE8 (e : Byte) : Statement (.ldHlSpE8 e) := ⟨rfl, Nat.le_of_ble_eq_true rfl⟩
theorem ldAIndN16 (n : Addr) : Statement (.ldAIndN16 n) := ⟨rfl, Nat.le_of_ble_eq_true rfl⟩
theorem cpN8 (n : Byte) : Statement (.cpN8 n) := ⟨rfl, Nat.le_of_ble_eq_true rfl⟩
theorem nop : Statement .nop := ⟨rfl, Nat.le_of_ble_eq_true rfl⟩
theorem ldIndBcA : Statement .ldIndBcA := ⟨rfl, Nat.le_of_ble_eq_true rfl⟩
theorem incBc : Statement .incBc := ⟨rfl, Nat.le_of_ble_eq_true rfl⟩
theorem incB : Statement .incB := ⟨rfl, Nat.le_of_ble_eq_true rfl⟩
theorem decB : Statement .decB := ⟨rfl, Nat.le_of_ble_eq_true rfl⟩
theorem rlca : Statement .rlca := ⟨rfl, Nat.le_of_ble_eq_true rfl⟩
theorem addHlBc : Statement .addHlBc := ⟨rfl, Nat.le_of_ble_eq_true rfl⟩
theorem ldAIndBc : Statement .ldAIndBc := ⟨rfl, Nat.le_of_ble_eq_true rfl⟩
theorem decBc : Statement .decBc := ⟨rfl, Nat.le_of_ble_eq_true rfl⟩
theorem incC : Statement .incC := ⟨rfl, Nat.le_of_ble_eq_true rfl⟩
theorem decC : Statement .decC := ⟨rfl, Nat.le_of_ble_eq_true rfl⟩
theorem rrca : Statement .rrca := ⟨rfl, Nat.le_of_ble_eq_true rfl⟩
theorem ldIndDeA : Statement .ldIndDeA := ⟨rfl, Nat.le_of_ble_eq_true rfl⟩
theorem incDe : Statement .incDe := ⟨rfl, Nat.le_of_ble_eq_true rfl⟩
theorem incD : Statement .incD := ⟨rfl, Nat.le_of_ble_eq_true rfl⟩
theorem decD : Statement .decD := ⟨rfl, Nat.le_of_ble_eq_true rfl⟩
theorem rla : Statement .rla := ⟨rfl, Nat.le_of_ble_eq_true rfl⟩
theorem addHlDe : Statement .addHlDe := ⟨rfl, Nat.le_of_ble_eq_true rfl⟩
theorem ldAIndDe : Statement .ldAIndDe := ⟨rfl, Nat.le_of_ble_eq_true rfl⟩
theorem decDe : Statement .decDe := ⟨rfl, Nat.le_of_ble_eq_true rfl⟩
theorem incE : Statement .incE := ⟨rfl, Nat.le_of_ble_eq_true rfl⟩
theorem decE : Statement .decE := ⟨rfl, Nat.le_of_ble_eq_true rfl⟩
theorem rra : Statement .rra := ⟨rfl, Nat.le_of_ble_eq_true rfl⟩
theorem ldIndHlIncA : Statement .ldIndHlIncA := ⟨rfl, Nat.le_of_ble_eq_true rfl⟩
theorem incHl : Statement .incHl := ⟨rfl, Nat.le_of_ble_eq_true rfl⟩
theorem incH : Statement .incH := ⟨rfl, Nat.le_of_ble_eq_true rfl⟩
theorem decH : Statement .decH := ⟨rfl, Nat.le_of_ble_eq_true rfl⟩
theorem daa : Statement .daa := ⟨rfl, Nat.le_of_ble_eq_true rfl⟩
theorem addHlHl : Statement .addHlHl := ⟨rfl, Nat.le_of_ble_eq_true rfl⟩
theorem ldAIndHlInc : Statement .ldAIndHlInc := ⟨rfl, Nat.le_of_ble_eq_true rfl⟩
theorem decHl : Statement .decHl := ⟨rfl, Nat.le_of_ble_eq_true rfl⟩
theorem incL : Statement .incL := ⟨rfl, Nat.le_of_ble_eq_true rfl⟩
theorem decL : Statement .decL := ⟨rfl, Nat.le_of_ble_eq_true rfl⟩
theorem cpl : Statement .cpl := ⟨rfl, Nat.le_of_ble_eq_true rfl⟩
theorem ldIndHlDecA : Statement .ldIndHlDecA := ⟨rfl, Nat.le_of_ble_eq_true rfl⟩
theorem incSp : Statement .incSp := ⟨rfl, Nat.le_of_ble_eq_true rfl⟩
theorem incIndHl : Statement .incIndHl := ⟨rfl, Nat.le_of_ble_eq_true rfl⟩
theorem decIndHl : Statement .decIndHl := ⟨rfl, Nat.le_of_ble_eq_true rfl⟩
theorem scf : Statement .scf := ⟨rfl, Nat.le_of_ble_eq_true rfl⟩
theorem addHlSp : Statement .addHlSp := ⟨rfl, Nat.le_of_ble_eq_true rfl⟩
theorem ldAIndHlDec : Statement .ldAIndHlDec := ⟨rfl, Nat.le_of_ble_eq_true rfl⟩
theorem decSp : Statement .decSp := ⟨rfl, Nat.le_of_ble_eq_true rfl⟩
theorem incA : Statement .incA := ⟨rfl, Nat.le_of_ble_eq_true rfl⟩
theorem decA : Statement .decA := ⟨rfl, Nat.le_of_ble_eq_true rfl⟩
theorem ccf : Statement .ccf := ⟨rfl, Nat.le_of_ble_eq_true rfl⟩
theorem ldBB : Statement .ldBB := ⟨rfl, Nat.le_of_ble_eq_true rfl⟩
theorem ldBC : Statement .ldBC := ⟨rfl, Nat.le_of_ble_eq_true rfl⟩
theorem ldBD : Statement .ldBD := ⟨rfl, Nat.le_of_ble_eq_true rfl⟩
theorem ldBE : Statement .ldBE := ⟨rfl, Nat.le_of_ble_eq_true rfl⟩
theorem ldBH : Statement .ldBH := ⟨rfl, Nat.le_of_ble_eq_true rfl⟩
theorem ldBL : Statement .ldBL := ⟨rfl, Nat.le_of_ble_eq_true rfl⟩
theorem ldBIndHl : Statement .ldBIndHl := ⟨rfl, Nat.le_of_ble_eq_true rfl⟩
theorem ldBA : Statement .ldBA := ⟨rfl, Nat.le_of_ble_eq_true rfl⟩
theorem ldCB : Statement .ldCB := ⟨rfl, Nat.le_of_ble_eq_true rfl⟩
theorem ldCC : Statement .ldCC := ⟨rfl, Nat.le_of_ble_eq_true rfl⟩
theorem ldCD : Statement .ldCD := ⟨rfl, Nat.le_of_ble_eq_true rfl⟩
theorem ldCE : Statement .ldCE := ⟨rfl, Nat.le_of_ble_eq_true rfl⟩
theorem ldCH : Statement .ldCH := ⟨rfl, Nat.le_of_ble_eq_true rfl⟩
theorem ldCL : Statement .ldCL := ⟨rfl, Nat.le_of_ble_eq_true rfl⟩
theorem ldCIndHl : Statement .ldCIndHl := ⟨rfl, Nat.le_of_ble_eq_true rfl⟩
theorem ldCA : Statement .ldCA := ⟨rfl, Nat.le_of_ble_eq_true rfl⟩
theorem ldDB : Statement .ldDB := ⟨rfl, Nat.le_of_ble_eq_true rfl⟩
theorem ldDC : Statement .ldDC := ⟨rfl, Nat.le_of_ble_eq_true rfl⟩
theorem ldDD : Statement .ldDD := ⟨rfl, Nat.le_of_ble_eq_true rfl⟩
theorem ldDE : Statement .ldDE := ⟨rfl, Nat.le_of_ble_eq_true rfl⟩
theorem ldDH : Statement .ldDH := ⟨rfl, Nat.le_of_ble_eq_true rfl⟩
theorem ldDL : Statement .ldDL := ⟨rfl, Nat.le_of_ble_eq_true rfl⟩
theorem ldDIndHl : Statement .ldDIndHl := ⟨rfl, Nat.le_of_ble_eq_true rfl⟩
theorem ldDA : Statement .ldDA := ⟨rfl, Nat.le_of_ble_eq_true rfl⟩
theorem ldEB : Statement .ldEB := ⟨rfl, Nat.le_of_ble_eq_true rfl⟩
theorem ldEC : Statement .ldEC := ⟨rfl, Nat.le_of_ble_eq_true rfl⟩
theorem ldED : Statement .ldED := ⟨rfl, Nat.le_of_ble_eq_true rfl⟩
theorem ldEE : Statement .ldEE := ⟨rfl, Nat.le_of_ble_eq_true rfl⟩
theorem ldEH : Statement .ldEH := ⟨rfl, Nat.le_of_ble_eq_true rfl⟩
theorem ldEL : Statement .ldEL := ⟨rfl, Nat.le_of_ble_eq_true rfl⟩
theorem ldEIndHl : Statement .ldEIndHl := ⟨rfl, Nat.le_of_ble_eq_true rfl⟩
theorem ldEA : Statement .ldEA := ⟨rfl, Nat.le_of_ble_eq_true rfl⟩
theorem ldHB : Statement .ldHB := ⟨rfl, Nat.le_of_ble_eq_true rfl⟩
theorem ldHC : Statement .ldHC := ⟨rfl, Nat.le_of_ble_eq_true rfl⟩
theorem ldHD : Statement .ldHD := ⟨rfl, Nat.le_of_ble_eq_true rfl⟩
theorem ldHE : Statement .ldHE := ⟨rfl, Nat.le_of_ble_eq_true rfl⟩
theorem ldHH : Statement .ldHH := ⟨rfl, Nat.le_of_ble_eq_true rfl⟩
theorem ldHL : Statement .ldHL := ⟨rfl, Nat.le_of_ble_eq_true rfl⟩
theorem ldHIndHl : Statement .ldHIndHl := ⟨rfl, Nat.le_of_ble_eq_true rfl⟩
theorem ldHA : Statement .ldHA := ⟨rfl, Nat.le_of_ble_eq_true rfl⟩
theorem ldLB : Statement .ldLB := ⟨rfl, Nat.le_of_ble_eq_true rfl⟩
theorem ldLC : Statement .ldLC := ⟨rfl, Nat.le_of_ble_eq_true rfl⟩
theorem ldLD : Statement .ldLD := ⟨rfl, Nat.le_of_ble_eq_true rfl⟩
theorem ldLE : Statement .ldLE := ⟨rfl, Nat.le_of_ble_eq_true rfl⟩
theorem ldLH : Statement .ldLH := ⟨rfl, Nat.le_of_ble_eq_true rfl⟩
theorem ldLL : Statement .ldLL := ⟨rfl, Nat.le_of_ble_eq_true rfl⟩
theorem ldLIndHl : Statement .ldLIndHl := ⟨rfl, Nat.le_of_ble_eq_true rfl⟩
theorem ldLA : Statement .ldLA := ⟨rfl, Nat.le_of_ble_eq_true rfl⟩
theorem ldIndHlB : Statement .ldIndHlB := ⟨rfl, Nat.le_of_ble_eq_true rfl⟩
theorem ldIndHlC : Statement .ldIndHlC := ⟨rfl, Nat.le_of_ble_eq_true rfl⟩
theorem ldIndHlD : Statement .ldIndHlD := ⟨rfl, Nat.le_of_ble_eq_true rfl⟩
theorem ldIndHlE : Statement .ldIndHlE := ⟨rfl, Nat.le_of_ble_eq_true rfl⟩
theorem ldIndHlH : Statement .ldIndHlH := ⟨rfl, Nat.le_of_ble_eq_true rfl⟩
theorem ldIndHlL : Statement .ldIndHlL := ⟨rfl, Nat.le_of_ble_eq_true rfl⟩
theorem halt : Statement .halt := ⟨rfl, Nat.le_of_ble_eq_true rfl⟩
theorem ldIndHlA : Statement .ldIndHlA := ⟨rfl, Nat.le_of_ble_eq_true rfl⟩
theorem ldAB : Statement .ldAB := ⟨rfl, Nat.le_of_ble_eq_true rfl⟩
theorem ldAC : Statement .ldAC := ⟨rfl, Nat.le_of_ble_eq_true rfl⟩
theorem ldAD : Statement .ldAD := ⟨rfl, Nat.le_of_ble_eq_true rfl⟩
theorem ldAE : Statement .ldAE := ⟨rfl, Nat.le_of_ble_eq_true rfl⟩
theorem ldAH : Statement .ldAH := ⟨rfl, Nat.le_of_ble_eq_true rfl⟩
theorem ldAL : Statement .ldAL := ⟨rfl, Nat.le_of_ble_eq_true rfl⟩
theorem ldAIndHl : Statement .ldAIndHl := ⟨rfl, Nat.le_of_ble_eq_true rfl⟩
theorem ldAA : Statement .ldAA := ⟨rfl, Nat.le_of_ble_eq_true rfl⟩
theorem addAB : Statement .addAB := ⟨rfl, Nat.le_of_ble_eq_true rfl⟩
theorem addAC : Statement .addAC := ⟨rfl, Nat.le_of_ble_eq_true rfl⟩
theorem addAD : Statement .addAD := ⟨rfl, Nat.le_of_ble_eq_true rfl⟩
theorem addAE : Statement .addAE := ⟨rfl, Nat.le_of_ble_eq_true rfl⟩
theorem addAH : Statement .addAH := ⟨rfl, Nat.le_of_ble_eq_true rfl⟩
theorem addAL : Statement .addAL := ⟨rfl, Nat.le_of_ble_eq_true rfl⟩
theorem addAIndHl : Statement .addAIndHl := ⟨rfl, Nat.le_of_ble_eq_true rfl⟩
theorem addAA : Statement .addAA := ⟨rfl, Nat.le_of_ble_eq_true rfl⟩
theorem adcAB : Statement .adcAB := ⟨rfl, Nat.le_of_ble_eq_true rfl⟩
theorem adcAC : Statement .adcAC := ⟨rfl, Nat.le_of_ble_eq_true rfl⟩
theorem adcAD : Statement .adcAD := ⟨rfl, Nat.le_of_ble_eq_true rfl⟩
theorem adcAE : Statement .adcAE := ⟨rfl, Nat.le_of_ble_eq_true rfl⟩
theorem adcAH : Statement .adcAH := ⟨rfl, Nat.le_of_ble_eq_true rfl⟩
theorem adcAL : Statement .adcAL := ⟨rfl, Nat.le_of_ble_eq_true rfl⟩
theorem adcAIndHl : Statement .adcAIndHl := ⟨rfl, Nat.le_of_ble_eq_true rfl⟩
theorem adcAA : Statement .adcAA := ⟨rfl, Nat.le_of_ble_eq_true rfl⟩
theorem subB : Statement .subB := ⟨rfl, Nat.le_of_ble_eq_true rfl⟩
theorem subC : Statement .subC := ⟨rfl, Nat.le_of_ble_eq_true rfl⟩
theorem subD : Statement .subD := ⟨rfl, Nat.le_of_ble_eq_true rfl⟩
theorem subE : Statement .subE := ⟨rfl, Nat.le_of_ble_eq_true rfl⟩
theorem subH : Statement .subH := ⟨rfl, Nat.le_of_ble_eq_true rfl⟩
theorem subL : Statement .subL := ⟨rfl, Nat.le_of_ble_eq_true rfl⟩
theorem subIndHl : Statement .subIndHl := ⟨rfl, Nat.le_of_ble_eq_true rfl⟩
theorem subA : Statement .subA := ⟨rfl, Nat.le_of_ble_eq_true rfl⟩
theorem sbcAB : Statement .sbcAB := ⟨rfl, Nat.le_of_ble_eq_true rfl⟩
theorem sbcAC : Statement .sbcAC := ⟨rfl, Nat.le_of_ble_eq_true rfl⟩
theorem sbcAD : Statement .sbcAD := ⟨rfl, Nat.le_of_ble_eq_true rfl⟩
theorem sbcAE : Statement .sbcAE := ⟨rfl, Nat.le_of_ble_eq_true rfl⟩
theorem sbcAH : Statement .sbcAH := ⟨rfl, Nat.le_of_ble_eq_true rfl⟩
theorem sbcAL : Statement .sbcAL := ⟨rfl, Nat.le_of_ble_eq_true rfl⟩
theorem sbcAIndHl : Statement .sbcAIndHl := ⟨rfl, Nat.le_of_ble_eq_true rfl⟩
theorem sbcAA : Statement .sbcAA := ⟨rfl, Nat.le_of_ble_eq_true rfl⟩
theorem andB : Statement .andB := ⟨rfl, Nat.le_of_ble_eq_true rfl⟩
theorem andC : Statement .andC := ⟨rfl, Nat.le_of_ble_eq_true rfl⟩
theorem andD : Statement .andD := ⟨rfl, Nat.le_of_ble_eq_true rfl⟩
theorem andE : Statement .andE := ⟨rfl, Nat.le_of_ble_eq_true rfl⟩
theorem andH : Statement .andH := ⟨rfl, Nat.le_of_ble_eq_true rfl⟩
theorem andL : Statement .andL := ⟨rfl, Nat.le_of_ble_eq_true rfl⟩
theorem andIndHl : Statement .andIndHl := ⟨rfl, Nat.le_of_ble_eq_true rfl⟩
theorem andA : Statement .andA := ⟨rfl, Nat.le_of_ble_eq_true rfl⟩
theorem xorB : Statement .xorB := ⟨rfl, Nat.le_of_ble_eq_true rfl⟩
theorem xorC : Statement .xorC := ⟨rfl, Nat.le_of_ble_eq_true rfl⟩
theorem xorD : Statement .xorD := ⟨rfl, Nat.le_of_ble_eq_true rfl⟩
theorem xorE : Statement .xorE := ⟨rfl, Nat.le_of_ble_eq_true rfl⟩
theorem xorH : Statement .xorH := ⟨rfl, Nat.le_of_ble_eq_true rfl⟩
theorem xorL : Statement .xorL := ⟨rfl, Nat.le_of_ble_eq_true rfl⟩
theorem xorIndHl : Statement .xorIndHl := ⟨rfl, Nat.le_of_ble_eq_true rfl⟩
theorem xorA : Statement .xorA := ⟨rfl, Nat.le_of_ble_eq_true rfl⟩
theorem orB : Statement .orB := ⟨rfl, Nat.le_of_ble_eq_true rfl⟩
theorem orC : Statement .orC := ⟨rfl, Nat.le_of_ble_eq_true rfl⟩
theorem orD : Statement .orD := ⟨rfl, Nat.le_of_ble_eq_true rfl⟩
theorem orE : Statement .orE := ⟨rfl, Nat.le_of_ble_eq_true rfl⟩
theorem orH : Statement .orH := ⟨rfl, Nat.le_of_ble_eq_true rfl⟩
theorem orL : Statement .orL := ⟨rfl, Nat.le_of_ble_eq_true rfl⟩
theorem orIndHl : Statement .orIndHl := ⟨rfl, Nat.le_of_ble_eq_true rfl⟩
theorem orA : Statement .orA := ⟨rfl, Nat.le_of_ble_eq_true rfl⟩
theorem cpB : Statement .cpB := ⟨rfl, Nat.le_of_ble_eq_true rfl⟩
theorem cpC : Statement .cpC := ⟨rfl, Nat.le_of_ble_eq_true rfl⟩
theorem cpD : Statement .cpD := ⟨rfl, Nat.le_of_ble_eq_true rfl⟩
theorem cpE : Statement .cpE := ⟨rfl, Nat.le_of_ble_eq_true rfl⟩
theorem cpH : Statement .cpH := ⟨rfl, Nat.le_of_ble_eq_true rfl⟩
theorem cpL : Statement .cpL := ⟨rfl, Nat.le_of_ble_eq_true rfl⟩
theorem cpIndHl : Statement .cpIndHl := ⟨rfl, Nat.le_of_ble_eq_true rfl⟩
theorem cpA : Statement .cpA := ⟨rfl, Nat.le_of_ble_eq_true rfl⟩
theorem retNz : Statement .retNz := ⟨rfl, Nat.le_of_ble_eq_true rfl⟩
theorem popBc : Statement .popBc := ⟨rfl, Nat.le_of_ble_eq_true rfl⟩
theorem pushBc : Statement .pushBc := ⟨rfl, Nat.le_of_ble_eq_true rfl⟩
theorem rst00 : Statement .rst00 := ⟨rfl, Nat.le_of_ble_eq_true rfl⟩
theorem retZ : Statement .retZ := ⟨rfl, Nat.le_of_ble_eq_true rfl⟩
theorem ret : Statement .ret := ⟨rfl, Nat.le_of_ble_eq_true rfl⟩
theorem rst08 : Statement .rst08 := ⟨rfl, Nat.le_of_ble_eq_true rfl⟩
theorem retNc : Statement .retNc := ⟨rfl, Nat.le_of_ble_eq_true rfl⟩
theorem popDe : Statement .popDe := ⟨rfl, Nat.le_of_ble_eq_true rfl⟩
theorem illegalD3 : Statement .illegalD3 := ⟨rfl, Nat.le_of_ble_eq_true rfl⟩
theorem pushDe : Statement .pushDe := ⟨rfl, Nat.le_of_ble_eq_true rfl⟩
theorem rst10 : Statement .rst10 := ⟨rfl, Nat.le_of_ble_eq_true rfl⟩
theorem retC : Statement .retC := ⟨rfl, Nat.le_of_ble_eq_true rfl⟩
theorem reti : Statement .reti := ⟨rfl, Nat.le_of_ble_eq_true rfl⟩
theorem illegalDB : Statement .illegalDB := ⟨rfl, Nat.le_of_ble_eq_true rfl⟩
theorem illegalDD : Statement .illegalDD := ⟨rfl, Nat.le_of_ble_eq_true rfl⟩
theorem rst18 : Statement .rst18 := ⟨rfl, Nat.le_of_ble_eq_true rfl⟩
theorem popHl : Statement .popHl := ⟨rfl, Nat.le_of_ble_eq_true rfl⟩
theorem ldhIndCA : Statement .ldhIndCA := ⟨rfl, Nat.le_of_ble_eq_true rfl⟩
theorem illegalE3 : Statement .illegalE3 := ⟨rfl, Nat.le_of_ble_eq_true rfl⟩
theorem illegalE4 : Statement .illegalE4 := ⟨rfl, Nat.le_of_ble_eq_true rfl⟩
theorem pushHl : Statement .pushHl := ⟨rfl, Nat.le_of_ble_eq_true rfl⟩
theorem rst20 : Statement .rst20 := ⟨rfl, Nat.le_of_ble_eq_true rfl⟩
theorem jpHl : Statement .jpHl := ⟨rfl, Nat.le_of_ble_eq_true rfl⟩
theorem illegalEB : Statement .illegalEB := ⟨rfl, Nat.le_of_ble_eq_true rfl⟩
theorem illegalEC : Statement .illegalEC := ⟨rfl, Nat.le_of_ble_eq_true rfl⟩
theorem illegalED : Statement .illegalED := ⟨rfl, Nat.le_of_ble_eq_true rfl⟩
theorem rst28 : Statement .rst28 := ⟨rfl, Nat.le_of_ble_eq_true rfl⟩
theorem popAf : Statement .popAf := ⟨rfl, Nat.le_of_ble_eq_true rfl⟩
theorem ldhAIndC : Statement .ldhAIndC := ⟨rfl, Nat.le_of_ble_eq_true rfl⟩
theorem di : Statement .di := ⟨rfl, Nat.le_of_ble_eq_true rfl⟩
theorem illegalF4 : Statement .illegalF4 := ⟨rfl, Nat.le_of_ble_eq_true rfl⟩
theorem pushAf : Statement .pushAf := ⟨rfl, Nat.le_of_ble_eq_true rfl⟩
theorem rst30 : Statement .rst30 := ⟨rfl, Nat.le_of_ble_eq_true rfl⟩
theorem ldSpHl : Statement .ldSpHl := ⟨rfl, Nat.le_of_ble_eq_true rfl⟩
theorem ei : Statement .ei := ⟨rfl, Nat.le_of_ble_eq_true rfl⟩
theorem illegalFC : Statement .illegalFC := ⟨rfl, Nat.le_of_ble_eq_true rfl⟩
theorem illegalFD : Statement .illegalFD := ⟨rfl, Nat.le_of_ble_eq_true rfl⟩
theorem rst38 : Statement .rst38 := ⟨rfl, Nat.le_of_ble_eq_true rfl⟩
theorem rlcB : Statement .rlcB := ⟨rfl, Nat.le_of_ble_eq_true rfl⟩
theorem rlcC : Statement .rlcC := ⟨rfl, Nat.le_of_ble_eq_true rfl⟩
theorem rlcD : Statement .rlcD := ⟨rfl, Nat.le_of_ble_eq_true rfl⟩
theorem rlcE : Statement .rlcE := ⟨rfl, Nat.le_of_ble_eq_true rfl⟩
theorem rlcH : Statement .rlcH := ⟨rfl, Nat.le_of_ble_eq_true rfl⟩
theorem rlcL : Statement .rlcL := ⟨rfl, Nat.le_of_ble_eq_true rfl⟩
theorem rlcIndHl : Statement .rlcIndHl := ⟨rfl, Nat.le_of_ble_eq_true rfl⟩
theorem rlcA : Statement .rlcA := ⟨rfl, Nat.le_of_ble_eq_true rfl⟩
theorem rrcB : Statement .rrcB := ⟨rfl, Nat.le_of_ble_eq_true rfl⟩
theorem rrcC : Statement .rrcC := ⟨rfl, Nat.le_of_ble_eq_true rfl⟩
theorem rrcD : Statement .rrcD := ⟨rfl, Nat.le_of_ble_eq_true rfl⟩
theorem rrcE : Statement .rrcE := ⟨rfl, Nat.le_of_ble_eq_true rfl⟩
theorem rrcH : Statement .rrcH := ⟨rfl, Nat.le_of_ble_eq_true rfl⟩
theorem rrcL : Statement .rrcL := ⟨rfl, Nat.le_of_ble_eq_true rfl⟩
theorem rrcIndHl : Statement .rrcIndHl := ⟨rfl, Nat.le_of_ble_eq_true rfl⟩
theorem rrcA : Statement .rrcA := ⟨rfl, Nat.le_of_ble_eq_true rfl⟩
theorem rlB : Statement .rlB := ⟨rfl, Nat.le_of_ble_eq_true rfl⟩
theorem rlC : Statement .rlC := ⟨rfl, Nat.le_of_ble_eq_true rfl⟩
theorem rlD : Statement .rlD := ⟨rfl, Nat.le_of_ble_eq_true rfl⟩
theorem rlE : Statement .rlE := ⟨rfl, Nat.le_of_ble_eq_true rfl⟩
theorem rlH : Statement .rlH := ⟨rfl, Nat.le_of_ble_eq_true rfl⟩
theorem rlL : Statement .rlL := ⟨rfl, Nat.le_of_ble_eq_true rfl⟩
theorem rlIndHl : Statement .rlIndHl := ⟨rfl, Nat.le_of_ble_eq_true rfl⟩
theorem rlA : Statement .rlA := ⟨rfl, Nat.le_of_ble_eq_true rfl⟩
theorem rrB : Statement .rrB := ⟨rfl, Nat.le_of_ble_eq_true rfl⟩
theorem rrC : Statement .rrC := ⟨rfl, Nat.le_of_ble_eq_true rfl⟩
theorem rrD : Statement .rrD := ⟨rfl, Nat.le_of_ble_eq_true rfl⟩
theorem rrE : Statement .rrE := ⟨rfl, Nat.le_of_ble_eq_true rfl⟩
theorem rrH : Statement .rrH := ⟨rfl, Nat.le_of_ble_eq_true rfl⟩
theorem rrL : Statement .rrL := ⟨rfl, Nat.le_of_ble_eq_true rfl⟩
theorem rrIndHl : Statement .rrIndHl := ⟨rfl, Nat.le_of_ble_eq_true rfl⟩
theorem rrA : Statement .rrA := ⟨rfl, Nat.le_of_ble_eq_true rfl⟩
theorem slaB : Statement .slaB := ⟨rfl, Nat.le_of_ble_eq_true rfl⟩
theorem slaC : Statement .slaC := ⟨rfl, Nat.le_of_ble_eq_true rfl⟩
theorem slaD : Statement .slaD := ⟨rfl, Nat.le_of_ble_eq_true rfl⟩
theorem slaE : Statement .slaE := ⟨rfl, Nat.le_of_ble_eq_true rfl⟩
theorem slaH : Statement .slaH := ⟨rfl, Nat.le_of_ble_eq_true rfl⟩
theorem slaL : Statement .slaL := ⟨rfl, Nat.le_of_ble_eq_true rfl⟩
theorem slaIndHl : Statement .slaIndHl := ⟨rfl, Nat.le_of_ble_eq_true rfl⟩
theorem slaA : Statement .slaA := ⟨rfl, Nat.le_of_ble_eq_true rfl⟩
theorem sraB : Statement .sraB := ⟨rfl, Nat.le_of_ble_eq_true rfl⟩
theorem sraC : Statement .sraC := ⟨rfl, Nat.le_of_ble_eq_true rfl⟩
theorem sraD : Statement .sraD := ⟨rfl, Nat.le_of_ble_eq_true rfl⟩
theorem sraE : Statement .sraE := ⟨rfl, Nat.le_of_ble_eq_true rfl⟩
theorem sraH : Statement .sraH := ⟨rfl, Nat.le_of_ble_eq_true rfl⟩
theorem sraL : Statement .sraL := ⟨rfl, Nat.le_of_ble_eq_true rfl⟩
theorem sraIndHl : Statement .sraIndHl := ⟨rfl, Nat.le_of_ble_eq_true rfl⟩
theorem sraA : Statement .sraA := ⟨rfl, Nat.le_of_ble_eq_true rfl⟩
theorem swapB : Statement .swapB := ⟨rfl, Nat.le_of_ble_eq_true rfl⟩
theorem swapC : Statement .swapC := ⟨rfl, Nat.le_of_ble_eq_true rfl⟩
theorem swapD : Statement .swapD := ⟨rfl, Nat.le_of_ble_eq_true rfl⟩
theorem swapE : Statement .swapE := ⟨rfl, Nat.le_of_ble_eq_true rfl⟩
theorem swapH : Statement .swapH := ⟨rfl, Nat.le_of_ble_eq_true rfl⟩
theorem swapL : Statement .swapL := ⟨rfl, Nat.le_of_ble_eq_true rfl⟩
theorem swapIndHl : Statement .swapIndHl := ⟨rfl, Nat.le_of_ble_eq_true rfl⟩
theorem swapA : Statement .swapA := ⟨rfl, Nat.le_of_ble_eq_true rfl⟩
theorem srlB : Statement .srlB := ⟨rfl, Nat.le_of_ble_eq_true rfl⟩
theorem srlC : Statement .srlC := ⟨rfl, Nat.le_of_ble_eq_true rfl⟩
theorem srlD : Statement .srlD := ⟨rfl, Nat.le_of_ble_eq_true rfl⟩
theorem srlE : Statement .srlE := ⟨rfl, Nat.le_of_ble_eq_true rfl⟩
theorem srlH : Statement .srlH := ⟨rfl, Nat.le_of_ble_eq_true rfl⟩
theorem srlL : Statement .srlL := ⟨rfl, Nat.le_of_ble_eq_true rfl⟩
theorem srlIndHl : Statement .srlIndHl := ⟨rfl, Nat.le_of_ble_eq_true rfl⟩
theorem srlA : Statement .srlA := ⟨rfl, Nat.le_of_ble_eq_true rfl⟩
theorem bit0B : Statement .bit0B := ⟨rfl, Nat.le_of_ble_eq_true rfl⟩
theorem bit0C : Statement .bit0C := ⟨rfl, Nat.le_of_ble_eq_true rfl⟩
theorem bit0D : Statement .bit0D := ⟨rfl, Nat.le_of_ble_eq_true rfl⟩
theorem bit0E : Statement .bit0E := ⟨rfl, Nat.le_of_ble_eq_true rfl⟩
theorem bit0H : Statement .bit0H := ⟨rfl, Nat.le_of_ble_eq_true rfl⟩
theorem bit0L : Statement .bit0L := ⟨rfl, Nat.le_of_ble_eq_true rfl⟩
theorem bit0IndHl : Statement .bit0IndHl := ⟨rfl, Nat.le_of_ble_eq_true rfl⟩
theorem bit0A : Statement .bit0A := ⟨rfl, Nat.le_of_ble_eq_true rfl⟩
theorem bit1B : Statement .bit1B := ⟨rfl, Nat.le_of_ble_eq_true rfl⟩
theorem bit1C : Statement .bit1C := ⟨rfl, Nat.le_of_ble_eq_true rfl⟩
theorem bit1D : Statement .bit1D := ⟨rfl, Nat.le_of_ble_eq_true rfl⟩
theorem bit1E : Statement .bit1E := ⟨rfl, Nat.le_of_ble_eq_true rfl⟩
theorem bit1H : Statement .bit1H := ⟨rfl, Nat.le_of_ble_eq_true rfl⟩
theorem bit1L : Statement .bit1L := ⟨rfl, Nat.le_of_ble_eq_true rfl⟩
theorem bit1IndHl : Statement .bit1IndHl := ⟨rfl, Nat.le_of_ble_eq_true rfl⟩
theorem bit1A : Statement .bit1A := ⟨rfl, Nat.le_of_ble_eq_true rfl⟩
theorem bit2B : Statement .bit2B := ⟨rfl, Nat.le_of_ble_eq_true rfl⟩
theorem bit2C : Statement .bit2C := ⟨rfl, Nat.le_of_ble_eq_true rfl⟩
theorem bit2D : Statement .bit2D := ⟨rfl, Nat.le_of_ble_eq_true rfl⟩
theorem bit2E : Statement .bit2E := ⟨rfl, Nat.le_of_ble_eq_true rfl⟩
theorem bit2H : Statement .bit2H := ⟨rfl, Nat.le_of_ble_eq_true rfl⟩
theorem bit2L : Statement .bit2L := ⟨rfl, Nat.le_of_ble_eq_true rfl⟩
theorem bit2IndHl : Statement .bit2IndHl := ⟨rfl, Nat.le_of_ble_eq_true rfl⟩
theorem bit2A : Statement .bit2A := ⟨rfl, Nat.le_of_ble_eq_true rfl⟩
theorem bit3B : Statement .bit3B := ⟨rfl, Nat.le_of_ble_eq_true rfl⟩
theorem bit3C : Statement .bit3C := ⟨rfl, Nat.le_of_ble_eq_true rfl⟩
theorem bit3D : Statement .bit3D := ⟨rfl, Nat.le_of_ble_eq_true rfl⟩
theorem bit3E : Statement .bit3E := ⟨rfl, Nat.le_of_ble_eq_true rfl⟩
theorem bit3H : Statement .bit3H := ⟨rfl, Nat.le_of_ble_eq_true rfl⟩
theorem bit3L : Statement .bit3L := ⟨rfl, Nat.le_of_ble_eq_true rfl⟩
theorem bit3IndHl : Statement .bit3IndHl := ⟨rfl, Nat.le_of_ble_eq_true rfl⟩
theorem bit3A : Statement .bit3A := ⟨rfl, Nat.le_of_ble_eq_true rfl⟩
theorem bit4B : Statement .bit4B := ⟨rfl, Nat.le_of_ble_eq_true rfl⟩
theorem bit4C : Statement .bit4C := ⟨rfl, Nat.le_of_ble_eq_true rfl⟩
theorem bit4D : Statement .bit4D := ⟨rfl, Nat.le_of_ble_eq_true rfl⟩
theorem bit4E : Statement .bit4E := ⟨rfl, Nat.le_of_ble_eq_true rfl⟩
theorem bit4H : Statement .bit4H := ⟨rfl, Nat.le_of_ble_eq_true rfl⟩
theorem bit4L : Statement .bit4L := ⟨rfl, Nat.le_of_ble_eq_true rfl⟩
theorem bit4IndHl : Statement .bit4IndHl := ⟨rfl, Nat.le_of_ble_eq_true rfl⟩
theorem bit4A : Statement .bit4A := ⟨rfl, Nat.le_of_ble_eq_true rfl⟩
theorem bit5B : Statement .bit5B := ⟨rfl, Nat.le_of_ble_eq_true rfl⟩
theorem bit5C : Statement .bit5C := ⟨rfl, Nat.le_of_ble_eq_true rfl⟩
theorem bit5D : Statement .bit5D := ⟨rfl, Nat.le_of_ble_eq_true rfl⟩
theorem bit5E : Statement .bit5E := ⟨rfl, Nat.le_of_ble_eq_true rfl⟩
theorem bit5H : Statement .bit5H := ⟨rfl, Nat.le_of_ble_eq_true rfl⟩
theorem bit5L : Statement .bit5L := ⟨rfl, Nat.le_of_ble_eq_true rfl⟩
theorem bit5IndHl : Statement .bit5IndHl := ⟨rfl, Nat.le_of_ble_eq_true rfl⟩
theorem bit5A : Statement .bit5A := ⟨rfl, Nat.le_of_ble_eq_true rfl⟩
theorem bit6B : Statement .bit6B := ⟨rfl, Nat.le_of_ble_eq_true rfl⟩
theorem bit6C : Statement .bit6C := ⟨rfl, Nat.le_of_ble_eq_true rfl⟩
theorem bit6D : Statement .bit6D := ⟨rfl, Nat.le_of_ble_eq_true rfl⟩
theorem bit6E : Statement .bit6E := ⟨rfl, Nat.le_of_ble_eq_true rfl⟩
theorem bit6H : Statement .bit6H := ⟨rfl, Nat.le_of_ble_eq_true rfl⟩
theorem bit6L : Statement .bit6L := ⟨rfl, Nat.le_of_ble_eq_true rfl⟩
theorem bit6IndHl : Statement .bit6IndHl := ⟨rfl, Nat.le_of_ble_eq_true rfl⟩
theorem bit6A : Statement .bit6A := ⟨rfl, Nat.le_of_ble_eq_true rfl⟩
theorem bit7B : Statement .bit7B := ⟨rfl, Nat.le_of_ble_eq_true rfl⟩
theorem bit7C : Statement .bit7C := ⟨rfl, Nat.le_of_ble_eq_true rfl⟩
theorem bit7D : Statement .bit7D := ⟨rfl, Nat.le_of_ble_eq_true rfl⟩
theorem bit7E : Statement .bit7E := ⟨rfl, Nat.le_of_ble_eq_true rfl⟩
theorem bit7H : Statement .bit7H := ⟨rfl, Nat.le_of_ble_eq_true rfl⟩
theorem bit7L : Statement .bit7L := ⟨rfl, Nat.le_of_ble_eq_true rfl⟩
theorem bit7IndHl : Statement .bit7IndHl := ⟨rfl, Nat.le_of_ble_eq_true rfl⟩
theorem bit7A : Statement .bit7A := ⟨rfl, Nat.le_of_ble_eq_true rfl⟩
theorem res0B : Statement .res0B := ⟨rfl, Nat.le_of_ble_eq_true rfl⟩
theorem res0C : Statement .res0C := ⟨rfl, Nat.le_of_ble_eq_true rfl⟩
theorem res0D : Statement .res0D := ⟨rfl, Nat.le_of_ble_eq_true rfl⟩
theorem res0E : Statement .res0E := ⟨rfl, Nat.le_of_ble_eq_true rfl⟩
theorem res0H : Statement .res0H := ⟨rfl, Nat.le_of_ble_eq_true rfl⟩
theorem res0L : Statement .res0L := ⟨rfl, Nat.le_of_ble_eq_true rfl⟩
theorem res0IndHl : Statement .res0IndHl := ⟨rfl, Nat.le_of_ble_eq_true rfl⟩
theorem res0A : Statement .res0A := ⟨rfl, Nat.le_of_ble_eq_true rfl⟩
theorem res1B : Statement .res1B := ⟨rfl, Nat.le_of_ble_eq_true rfl⟩
theorem res1C : Statement .res1C := ⟨rfl, Nat.le_of_ble_eq_true rfl⟩
theorem res1D : Statement .res1D := ⟨rfl, Nat.le_of_ble_eq_true rfl⟩
theorem res1E : Statement .res1E := ⟨rfl, Nat.le_of_ble_eq_true rfl⟩
theorem res1H : Statement .res1H := ⟨rfl, Nat.le_of_ble_eq_true rfl⟩
theorem res1L : Statement .res1L := ⟨rfl, Nat.le_of_ble_eq_true rfl⟩
theorem res1IndHl : Statement .res1IndHl := ⟨rfl, Nat.le_of_ble_eq_true rfl⟩
theorem res1A : Statement .res1A := ⟨rfl, Nat.le_of_ble_eq_true rfl⟩
theorem res2B : Statement .res2B := ⟨rfl, Nat.le_of_ble_eq_true rfl⟩
theorem res2C : Statement .res2C := ⟨rfl, Nat.le_of_ble_eq_true rfl⟩
theorem res2D : Statement .res2D := ⟨rfl, Nat.le_of_ble_eq_true rfl⟩
theorem res2E : Statement .res2E := ⟨rfl, Nat.le_of_ble_eq_true rfl⟩
theorem res2H : Statement .res2H := ⟨rfl, Nat.le_of_ble_eq_true rfl⟩
theorem res2L : Statement .res2L := ⟨rfl, Nat.le_of_ble_eq_true rfl⟩
theorem res2IndHl : Statement .res2IndHl := ⟨rfl, Nat.le_of_ble_eq_true rfl⟩
theorem res2A : Statement .res2A := ⟨rfl, Nat.le_of_ble_eq_true rfl⟩
theorem res3B : Statement .res3B := ⟨rfl, Nat.le_of_ble_eq_true rfl⟩
theorem res3C : Statement .res3C := ⟨rfl, Nat.le_of_ble_eq_true rfl⟩
theorem res3D : Statement .res3D := ⟨rfl, Nat.le_of_ble_eq_true rfl⟩
theorem res3E : Statement .res3E := ⟨rfl, Nat.le_of_ble_eq_true rfl⟩
theorem res3H : Statement .res3H := ⟨rfl, Nat.le_of_ble_eq_true rfl⟩
theorem res3L : Statement .res3L := ⟨rfl, Nat.le_of_ble_eq_true rfl⟩
theorem res3IndHl : Statement .res3IndHl := ⟨rfl, Nat.le_of_ble_eq_true rfl⟩
theorem res3A : Statement .res3A := ⟨rfl, Nat.le_of_ble_eq_true rfl⟩
theorem res4B : Statement .res4B := ⟨rfl, Nat.le_of_ble_eq_true rfl⟩
theorem res4C : Statement .res4C := ⟨rfl, Nat.le_of_ble_eq_true rfl⟩
theorem res4D : Statement .res4D := ⟨rfl, Nat.le_of_ble_eq_true rfl⟩
theorem res4E : Statement .res4E := ⟨rfl, Nat.le_of_ble_eq_true rfl⟩
theorem res4H : Statement .res4H := ⟨rfl, Nat.le_of_ble_eq_true rfl⟩
theorem res4L : Statement .res4L := ⟨rfl, Nat.le_of_ble_eq_true rfl⟩
theorem res4IndHl : Statement .res4IndHl := ⟨rfl, Nat.le_of_ble_eq_true rfl⟩
theorem res4A : Statement .res4A := ⟨rfl, Nat.le_of_ble_eq_true rfl⟩
theorem res5B : Statement .res5B := ⟨rfl, Nat.le_of_ble_eq_true rfl⟩
theorem res5C : Statement .res5C := ⟨rfl, Nat.le_of_ble_eq_true rfl⟩
theorem res5D : Statement .res5D := ⟨rfl, Nat.le_of_ble_eq_true rfl⟩
theorem res5E : Statement .res5E := ⟨rfl, Nat.le_of_ble_eq_true rfl⟩
theorem res5H : Statement .res5H := ⟨rfl, Nat.le_of_ble_eq_true rfl⟩
theorem res5L : Statement .res5L := ⟨rfl, Nat.le_of_ble_eq_true rfl⟩
theorem res5IndHl : Statement .res5IndHl := ⟨rfl, Nat.le_of_ble_eq_true rfl⟩
theorem res5A : Statement .res5A := ⟨rfl, Nat.le_of_ble_eq_true rfl⟩
theorem res6B : Statement .res6B := ⟨rfl, Nat.le_of_ble_eq_true rfl⟩
theorem res6C : Statement .res6C := ⟨rfl, Nat.le_of_ble_eq_true rfl⟩
theorem res6D : Statement .res6D := ⟨rfl, Nat.le_of_ble_eq_true rfl⟩
theorem res6E : Statement .res6E := ⟨rfl, Nat.le_of_ble_eq_true rfl⟩
theorem res6H : Statement .res6H := ⟨rfl, Nat.le_of_ble_eq_true rfl⟩
theorem res6L : Statement .res6L := ⟨rfl, Nat.le_of_ble_eq_true rfl⟩
theorem res6IndHl : Statement .res6IndHl := ⟨rfl, Nat.le_of_ble_eq_true rfl⟩
theorem res6A : Statement .res6A := ⟨rfl, Nat.le_of_ble_eq_true rfl⟩
theorem res7B : Statement .res7B := ⟨rfl, Nat.le_of_ble_eq_true rfl⟩
theorem res7C : Statement .res7C := ⟨rfl, Nat.le_of_ble_eq_true rfl⟩
theorem res7D : Statement .res7D := ⟨rfl, Nat.le_of_ble_eq_true rfl⟩
theorem res7E : Statement .res7E := ⟨rfl, Nat.le_of_ble_eq_true rfl⟩
theorem res7H : Statement .res7H := ⟨rfl, Nat.le_of_ble_eq_true rfl⟩
theorem res7L : Statement .res7L := ⟨rfl, Nat.le_of_ble_eq_true rfl⟩
theorem res7IndHl : Statement .res7IndHl := ⟨rfl, Nat.le_of_ble_eq_true rfl⟩
theorem res7A : Statement .res7A := ⟨rfl, Nat.le_of_ble_eq_true rfl⟩
theorem set0B : Statement .set0B := ⟨rfl, Nat.le_of_ble_eq_true rfl⟩
theorem set0C : Statement .set0C := ⟨rfl, Nat.le_of_ble_eq_true rfl⟩
theorem set0D : Statement .set0D := ⟨rfl, Nat.le_of_ble_eq_true rfl⟩
theorem set0E : Statement .set0E := ⟨rfl, Nat.le_of_ble_eq_true rfl⟩
theorem set0H : Statement .set0H := ⟨rfl, Nat.le_of_ble_eq_true rfl⟩
theorem set0L : Statement .set0L := ⟨rfl, Nat.le_of_ble_eq_true rfl⟩
theorem set0IndHl : Statement .set0IndHl := ⟨rfl, Nat.le_of_ble_eq_true rfl⟩
theorem set0A : Statement .set0A := ⟨rfl, Nat.le_of_ble_eq_true rfl⟩
theorem set1B : Statement .set1B := ⟨rfl, Nat.le_of_ble_eq_true rfl⟩
theorem set1C : Statement .set1C := ⟨rfl, Nat.le_of_ble_eq_true rfl⟩
theorem set1D : Statement .set1D := ⟨rfl, Nat.le_of_ble_eq_true rfl⟩
theorem set1E : Statement .set1E := ⟨rfl, Nat.le_of_ble_eq_true rfl⟩
theorem set1H : Statement .set1H := ⟨rfl, Nat.le_of_ble_eq_true rfl⟩
theorem set1L : Statement .set1L := ⟨rfl, Nat.le_of_ble_eq_true rfl⟩
theorem set1IndHl : Statement .set1IndHl := ⟨rfl, Nat.le_of_ble_eq_true rfl⟩
theorem set1A : Statement .set1A := ⟨rfl, Nat.le_of_ble_eq_true rfl⟩
theorem set2B : Statement .set2B := ⟨rfl, Nat.le_of_ble_eq_true rfl⟩
theorem set2C : Statement .set2C := ⟨rfl, Nat.le_of_ble_eq_true rfl⟩
theorem set2D : Statement .set2D := ⟨rfl, Nat.le_of_ble_eq_true rfl⟩
theorem set2E : Statement .set2E := ⟨rfl, Nat.le_of_ble_eq_true rfl⟩
theorem set2H : Statement .set2H := ⟨rfl, Nat.le_of_ble_eq_true rfl⟩
theorem set2L : Statement .set2L := ⟨rfl, Nat.le_of_ble_eq_true rfl⟩
theorem set2IndHl : Statement .set2IndHl := ⟨rfl, Nat.le_of_ble_eq_true rfl⟩
theorem set2A : Statement .set2A := ⟨rfl, Nat.le_of_ble_eq_true rfl⟩
theorem set3B : Statement .set3B := ⟨rfl, Nat.le_of_ble_eq_true rfl⟩
theorem set3C : Statement .set3C := ⟨rfl, Nat.le_of_ble_eq_true rfl⟩
theorem set3D : Statement .set3D := ⟨rfl, Nat.le_of_ble_eq_true rfl⟩
theorem set3E : Statement .set3E := ⟨rfl, Nat.le_of_ble_eq_true rfl⟩
theorem set3H : Statement .set3H := ⟨rfl, Nat.le_of_ble_eq_true rfl⟩
theorem set3L : Statement .set3L := ⟨rfl, Nat.le_of_ble_eq_true rfl⟩
theorem set3IndHl : Statement .set3IndHl := ⟨rfl, Nat.le_of_ble_eq_true rfl⟩
theorem set3A : Statement .set3A := ⟨rfl, Nat.le_of_ble_eq_true rfl⟩
theorem set4B : Statement .set4B := ⟨rfl, Nat.le_of_ble_eq_true rfl⟩
theorem set4C : Statement .set4C := ⟨rfl, Nat.le_of_ble_eq_true rfl⟩
theorem set4D : Statement .set4D := ⟨rfl, Nat.le_of_ble_eq_true rfl⟩
theorem set4E : Statement .set4E := ⟨rfl, Nat.le_of_ble_eq_true rfl⟩
theorem set4H : Statement .set4H := ⟨rfl, Nat.le_of_ble_eq_true rfl⟩
theorem set4L : Statement .set4L := ⟨rfl, Nat.le_of_ble_eq_true rfl⟩
theorem set4IndHl : Statement .set4IndHl := ⟨rfl, Nat.le_of_ble_eq_true rfl⟩
theorem set4A : Statement .set4A := ⟨rfl, Nat.le_of_ble_eq_true rfl⟩
theorem set5B : Statement .set5B := ⟨rfl, Nat.le_of_ble_eq_true rfl⟩
theorem set5C : Statement .set5C := ⟨rfl, Nat.le_of_ble_eq_true rfl⟩
theorem set5D : Statement .set5D := ⟨rfl, Nat.le_of_ble_eq_true rfl⟩
theorem set5E : Statement .set5E := ⟨rfl, Nat.le_of_ble_eq_true rfl⟩
theorem set5H : Statement .set5H := ⟨rfl, Nat.le_of_ble_eq_true rfl⟩
theorem set5L : Statement .set5L := ⟨rfl, Nat.le_of_ble_eq_true rfl⟩
theorem set5IndHl : Statement .set5IndHl := ⟨rfl, Nat.le_of_ble_eq_true rfl⟩
theorem set5A : Statement .set5A := ⟨rfl, Nat.le_of_ble_eq_true rfl⟩
theorem set6B : Statement .set6B := ⟨rfl, Nat.le_of_ble_eq_true rfl⟩
theorem set6C : Statement .set6C := ⟨rfl, Nat.le_of_ble_eq_true rfl⟩
theorem set6D : Statement .set6D := ⟨rfl, Nat.le_of_ble_eq_true rfl⟩
theorem set6E : Statement .set6E := ⟨rfl, Nat.le_of_ble_eq_true rfl⟩
theorem set6H : Statement .set6H := ⟨rfl, Nat.le_of_ble_eq_true rfl⟩
theorem set6L : Statement .set6L := ⟨rfl, Nat.le_of_ble_eq_true rfl⟩
theorem set6IndHl : Statement .set6IndHl := ⟨rfl, Nat.le_of_ble_eq_true rfl⟩
theorem set6A : Statement .set6A := ⟨rfl, Nat.le_of_ble_eq_true rfl⟩
theorem set7B : Statement .set7B := ⟨rfl, Nat.le_of_ble_eq_true rfl⟩
theorem set7C : Statement .set7C := ⟨rfl, Nat.le_of_ble_eq_true rfl⟩
theorem set7D : Statement .set7D := ⟨rfl, Nat.le_of_ble_eq_true rfl⟩
theorem set7E : Statement .set7E := ⟨rfl, Nat.le_of_ble_eq_true rfl⟩
theorem set7H : Statement .set7H := ⟨rfl, Nat.le_of_ble_eq_true rfl⟩
theorem set7L : Statement .set7L := ⟨rfl, Nat.le_of_ble_eq_true rfl⟩
theorem set7IndHl : Statement .set7IndHl := ⟨rfl, Nat.le_of_ble_eq_true rfl⟩
theorem set7A : Statement .set7A := ⟨rfl, Nat.le_of_ble_eq_true rfl⟩

end Sys2Proof.Laws.Encoding
end

