-- ==== Sys2Proof/Laws/Words.lean ====
section
/-! SUPPORT. Arithmetic of bytes, pairs and flags (spec 10_state.md R101, R104): halves and their join, the four flags of
a flag byte, and the carries as the rules write them. -/

namespace Sys2Proof.Machine

theorem toNat_join (hi lo : Byte) : (hi ++ lo).toNat = hi.toNat * 256 + lo.toNat := by
  rw [BitVec.toNat_append, ← Nat.shiftLeft_add_eq_or_of_lt (BitVec.isLt _), Nat.shiftLeft_eq]

/-- A pair is its halves joined. -/
@[simp] theorem hi8_append_lo8 (v : Addr) : hi8 v ++ lo8 v = v := by
  apply BitVec.eq_of_toNat_eq
  rw [toNat_join]
  simp only [hi8, lo8, BitVec.extractLsb'_toNat, Nat.shiftRight_eq_div_pow]
  omega

@[simp] theorem hi8_append (hi lo : Byte) : hi8 (hi ++ lo) = hi := by
  apply BitVec.eq_of_toNat_eq
  rw [hi8, BitVec.extractLsb'_toNat, toNat_join, Nat.shiftRight_eq_div_pow]
  have := hi.isLt
  have := lo.isLt
  omega

@[simp] theorem lo8_append (hi lo : Byte) : lo8 (hi ++ lo) = lo := by
  apply BitVec.eq_of_toNat_eq
  rw [lo8, BitVec.extractLsb'_toNat, toNat_join, Nat.shiftRight_eq_div_pow]
  have := lo.isLt
  omega

/-- The four flags of a flag byte, and its low nibble. -/
theorem flagByte_bits (z n h c : Bool) :
    (flagByte z n h c).getLsbD 7 = z ∧ (flagByte z n h c).getLsbD 6 = n ∧ (flagByte z n h c).getLsbD 5 = h
    ∧ (flagByte z n h c).getLsbD 4 = c ∧ flagByte z n h c &&& 0x0F = 0 := by
  cases z <;> cases n <;> cases h <;> cases c <;> decide

/-- The `LDH` address, as the rules write it (R303). -/
theorem highPage_eq (n : Byte) : 0xFF#8 ++ n = BitVec.ofNat 16 (0xFF00 + n.toNat) := by
  apply BitVec.eq_of_toNat_eq
  rw [toNat_join, BitVec.toNat_ofNat]
  have := n.isLt
  simp only [BitVec.toNat_ofNat]
  omega

/-- Adding a sign-extended byte, as the rules write it (R10, R581). -/
theorem add_sext16 (a : Addr) (e : Byte) : a + sext16 e = BitVec.ofInt 16 (a.toNat + e.toInt) := by
  apply BitVec.eq_of_toInt_eq
  rw [BitVec.toInt_add, sext16, BitVec.toInt_ofInt, BitVec.toInt_signExtend_of_le (by decide)]
  have : a.toInt = (a.toNat : Int).bmod (2 ^ 16) := BitVec.toInt_eq_toNat_bmod a
  rw [this, Int.bmod_add_bmod]

end Sys2Proof.Machine
end

