-- ==== Sys2Proof/Laws/Results.lean ====
section
/-! SUPPORT. Results and flags as the statements write them (spec 42_alu8.md, 43_alu16.md, 44_rotate_shift_bit.md):
for each computation of Flags.lean, the equation with the rule's own arithmetic. -/

namespace Sys2Proof.Machine

/-- The four flags of a register file whose F is a flag byte. -/
theorem flagsAre_of_flagByte {g : Regs} {z n h c : Bool} (e : g.f = flagByte z n h c) : g.flagsAre z n h c := by
  unfold Regs.flagsAre; rw [e]; exact flagByte_bits z n h c

/-- A rotate or shift gives the rule's result and carry (R524 to R538). -/
theorem shift8_eq (op : ShiftOp) (v : Byte) (c : Bool) : shift8 op v c = (shiftResult op v c, shiftCarry op v) := by
  cases op <;> cases c <;> revert v <;> decide +kernel

/-- Moving an address up by one, as the rules write it (R415, R500). -/
theorem addr_add_one (x : Addr) : x + 1 = BitVec.ofNat 16 (x.toNat + 1) := by
  apply BitVec.eq_of_toNat_eq; simp [BitVec.toNat_add, BitVec.toNat_ofNat]

/-- Moving an address down by one, as the rules write it (R416, R501, R617). -/
theorem addr_add_neg_one (x : Addr) : x + -1 = BitVec.ofNat 16 (x.toNat + 0xFFFF) := by
  apply BitVec.eq_of_toNat_eq
  have : (-1 : Addr).toNat = 0xFFFF := by decide
  rw [BitVec.toNat_add, this, BitVec.toNat_ofNat]

/-- A subtraction's byte, as the rules write it (R452). -/
theorem sub8_res_toNat (a v : Byte) (cin : Bool) :
    (sub8 a v cin).res.toNat = (a.toNat + 512 - v.toNat - cin.toNat) % 256 := by
  have := a.isLt
  have := v.isLt
  have : cin.toNat ≤ 1 := by cases cin <;> decide
  rw [sub8, BitVec.toNat_ofInt]
  omega

/-- The pending set of R613, bit by bit, on the register IE and the stored bits of IF. -/
theorem pending_bits (s : State) {k : Nat} (hk : k < 5) :
    (s.ie &&& s.iflag.zeroExtend 8 &&& 0x1F).getLsbD k = s.pending.getLsbD k := by
  unfold State.pending
  have : k = 0 ∨ k = 1 ∨ k = 2 ∨ k = 3 ∨ k = 4 := by omega
  rcases this with rfl | rfl | rfl | rfl | rfl <;> simp

theorem pending_eq_zero_iff (s : State) : s.ie &&& s.iflag.zeroExtend 8 &&& 0x1F = 0 ↔ s.pending = 0 := by
  constructor
  · intro h
    apply BitVec.eq_of_getLsbD_eq
    intro k hk
    rw [← pending_bits s hk, h]; simp
  · intro h
    apply BitVec.eq_of_getLsbD_eq
    intro k hk
    by_cases h5 : k < 5
    · rw [pending_bits s h5, h]; simp
    · have : k = 5 ∨ k = 6 ∨ k = 7 := by omega
      rcases this with rfl | rfl | rfl <;> simp

end Sys2Proof.Machine
end

