-- ==== Sys2Proof/Laws/Stack.lean ====
section
/-! SUPPORT. The stack (spec 20_memory.md R219, R220): two neighbouring bytes of plain storage do not disturb each other,
and a push leaves what the statements say of it. -/

namespace Sys2Proof.Machine

/-- Two neighbouring bytes of plain storage are different bytes. -/
theorem not_touches_of_plain_both {s : State} {a b : Addr} (ha : s.plain a = true) (hb : s.plain b = true)
    (hab : b = a - 1 ∨ b = a + 1) :
    ¬s.touches a b := by
  have hr : ¬ a.toNat < 0x8000 := by
    intro h; rw [State.plain, locate_of_rom h] at ha; cases ha
  have hs : s.locate a ≠ .svbk := by
    intro h; rw [State.plain, h] at ha; cases ha
  have hl : s.locate b ≠ s.locate a := by
    intro e
    have hne : b.toNat ≠ a.toNat := by rcases hab with rfl | rfl <;> bv_omega
    have hclose : (b.toNat + 1 = a.toNat ∨ b.toNat = a.toNat + 1) ∨ (a.toNat = 0xFFFF) ∨ a.toNat = 0 := by
      have := a.isLt
      rcases hab with rfl | rfl
      · by_cases h : a.toNat = 0
        · exact .inr (.inr h)
        · left; left; bv_omega
      · by_cases h : a.toNat = 0xFFFF
        · exact .inr (.inl h)
        · left; right; bv_omega
    have hfff : a.toNat ≠ 0xFFFF := by
      intro h
      have : s.locate a = .ie := by
        rcases locate_cases s a with ⟨h1, e⟩ | ⟨h1, h2, e⟩ | ⟨h1, h2, e⟩ | ⟨h1, h2, e⟩ | ⟨h1, h2, h3, e⟩ | ⟨h1, h2, h3, e⟩
          | ⟨h1, h2, e⟩ | ⟨h1, h2, e⟩ | ⟨h1, e⟩ | ⟨h1, e⟩ | ⟨h1, h2, e⟩ | ⟨h1, h2, h3, h4, h5, e⟩ | ⟨h1, h2, e⟩ | ⟨h1, e⟩
        all_goals first | exact e | omega
      rw [State.plain, this] at ha; cases ha
    have hc : b.toNat + 1 = a.toNat ∨ b.toNat = a.toNat + 1 := by omega
    have hbank : 1 ≤ s.wramBank := by unfold State.wramBank zeroToOne; split <;> [(split <;> omega); omega]
    have hram : ∀ o1 o2, o1 ≠ o2 → s.plain a = true → s.locate a = .ext (s.cart.ramTarget o1) →
        s.cart.ramTarget o1 ≠ s.cart.ramTarget o2 := by
      intro o1 o2 ho hp hl he
      rw [State.plain, hl] at hp
      unfold Cart.ramTarget Cart.ramByte at he hp
      repeat' split at he
      all_goals simp_all
    have hw : ∀ o1 o2, o1 < 0x2000 → o2 < 0x2000 →
        (o1 + 1 = o2 ∨ o1 = o2 + 1 ∨ (o1 = 0 ∧ o2 = 0x1FFF) ∨ (o1 = 0x1FFF ∧ o2 = 0)) →
        s.wramOffset o1 ≠ s.wramOffset o2 := by
      intro o1 o2 h1 h2 h; unfold State.wramOffset; generalize s.wramBank = k at *
      split <;> split <;> omega
    have ha' := ha
    unfold State.plain at ha
    rcases locate_cases s a with ⟨h1, e1⟩ | ⟨h1, h2, e1⟩ | ⟨h1, h2, e1⟩ | ⟨h1, h2, e1⟩ | ⟨h1, h2, h3, e1⟩ | ⟨h1, h2, h3, e1⟩
      | ⟨h1, h2, e1⟩ | ⟨h1, h2, e1⟩ | ⟨h1, e1⟩ | ⟨h1, e1⟩ | ⟨h1, h2, e1⟩ | ⟨h1, h2, h3, h4, h5, e1⟩ | ⟨h1, h2, e1⟩ | ⟨h1, e1⟩
    all_goals first | omega | skip
    all_goals
      rcases locate_cases s b with ⟨k1, e2⟩ | ⟨k1, k2, e2⟩ | ⟨k1, k2, e2⟩ | ⟨k1, k2, e2⟩ | ⟨k1, k2, k3, e2⟩ | ⟨k1, k2, k3, e2⟩
        | ⟨k1, k2, e2⟩ | ⟨k1, k2, e2⟩ | ⟨k1, e2⟩ | ⟨k1, e2⟩ | ⟨k1, k2, e2⟩ | ⟨k1, k2, k3, k4, k5, e2⟩ | ⟨k1, k2, e2⟩ | ⟨k1, e2⟩
      all_goals first | omega | (rw [e1, e2] at e; exact Target.noConfusion e) | skip
      all_goals rw [e1, e2] at e
      all_goals first
        | (simp [e1] at ha; done)
        | (injection e with e; omega)
        | (injection e with e; exact hram _ _ (by omega) ha' e1 e.symm)
        | (injection e with e; exact hw _ _ (by omega) (by omega) (by omega) e)
  rintro (h | ⟨h, _⟩ | ⟨h, _⟩)
  · exact hl h
  · exact hr h
  · exact hs h

/-- A write does not touch plain storage next to it. -/
theorem not_touches_neighbour {s : State} {a b : Addr} (hb : s.plain b = true) (hab : b = a - 1 ∨ b = a + 1) :
    ¬s.touches a b := by
  intro ht
  have hclose : b.toNat + 1 = a.toNat ∨ b.toNat = a.toNat + 1 ∨ a.toNat = 0 ∨ a.toNat = 0xFFFF := by
    have := a.isLt
    rcases hab with rfl | rfl
    · by_cases h : a.toNat = 0
      · omega
      · left; bv_omega
    · by_cases h : a.toNat = 0xFFFF
      · omega
      · right; left; bv_omega
  have hr : ¬ b.toNat < 0x8000 := by
    intro h; rw [State.plain, locate_of_rom h] at hb; cases hb
  have hr0 : b.toNat ≠ 0 := by omega
  rcases ht with h | ⟨h, h2⟩ | ⟨h, h2⟩
  · have ha : s.plain a = true := by rw [State.plain, ← h]; exact hb
    exact not_touches_of_plain_both ha hb hab (.inl h)
  · have := a.isLt
    rcases hab with rfl | rfl <;> bv_omega
  · have : a.toNat = 0xFF70 := by
      rcases locate_cases s a with ⟨h1, e⟩ | ⟨h1, h2, e⟩ | ⟨h1, h2, e⟩ | ⟨h1, h2, e⟩ | ⟨h1, h2, h3, e⟩ | ⟨h1, h2, h3, e⟩
          | ⟨h1, h2, e⟩ | ⟨h1, h2, e⟩ | ⟨h1, e⟩ | ⟨h1, e⟩ | ⟨h1, h2, e⟩ | ⟨h1, h2, h3, h4, h5, e⟩ | ⟨h1, h2, e⟩ | ⟨h1, e⟩
      all_goals first | omega | (rw [e] at h; exact Target.noConfusion h)
    rcases hab with rfl | rfl <;> bv_omega

/-- A write of plain storage leaves the address decoder as it was. -/
theorem locate_of_plain_write {s t : State} {a : Addr} {v : Byte} (hp : s.plain a = true) (h : memWrite a v s = .ok () t)
    (b : Addr) : t.locate b = s.locate b := by
  unfold memWrite at h
  split at h
  · cases h
  unfold State.plain at hp
  unfold busWrite at h
  split at h <;> rename_i e <;> rw [e] at hp <;> try cases hp
  · cases h; apply locate_eq <;> (simp only [State.videoDrawn]; split <;> rfl)
  · rename_i t
    cases t <;> try cases hp
    cases h; rfl
  · cases h; rfl
  · cases h; apply locate_eq <;> (simp only [State.videoDrawn]; split <;> rfl)
  · cases h; rfl
theorem plain_congr {s t : State} {a : Addr} (hp : t.params = s.params) (hl : t.locate a = s.locate a) :
    t.plain a = s.plain a := by
  unfold State.plain; rw [hl, hp]

/-- `Push16` completes as the statements say wherever its pair of writes raises no fault. -/
theorem push16_pushes {s : State} {v : Addr} (h : ¬s.pushFaults v) :
    ∃ t, s.pushes v t ∧ push16 v s = .ok () t ∧ t.cycles = s.cycles := by
  obtain ⟨u, t, hu, ht, hp, hr, hc⟩ := push16_ok h
  have hsub : s.regs.sp - 1 = (s.regs.sp - 2) + 1 := by bv_omega
  have hsub' : s.regs.sp - 2 = (s.regs.sp - 1) - 1 := by bv_omega
  refine ⟨t, ⟨⟨u, hu, ht⟩, hr, ?_, ?_⟩, hp, hc⟩
  · intro h1
    have hu4 := hu.2.2.2 h1
    have hpl : (u.setSp (s.regs.sp - 2)).plain (s.regs.sp - 1) = true := by
      have := plain_congr (writes_params hu) (locate_of_plain_write (s := s.setSp (s.regs.sp - 1)) h1 hu.1 (s.regs.sp - 1))
      exact this.trans h1
    have := (ht.2.2.1 _ (not_touches_neighbour hpl (.inr hsub))).2.2
    rw [this]; exact hu4
  · intro h2
    apply ht.2.2.2
    have := (hu.2.2.1 _ (not_touches_neighbour (s := s.setSp (s.regs.sp - 1)) h2 (.inl hsub'))).1
    exact (plain_congr (s := s.setSp (s.regs.sp - 1)) (t := u) (writes_params hu) this).trans h2

end Sys2Proof.Machine
end

