-- ==== Sys2Proof/Laws/Step.lean ====
section
/-! SUPPORT. The step's parts (spec 70_reset_and_hazards.md R720): fetching a byte that the core stores, the idle DMA
sequencer, and the end of an instruction's step as the statements write it. -/

namespace Sys2Proof.Machine

/-! ## The fetch -/

/-- A CPU read where the core stores the answer. -/
theorem memRead_of_peek {s : State} {a : Addr} {v : Byte} (h1 : ¬s.conflicts a) (h2 : s.peek a = some v) :
    memRead a s = .ok v s := by
  rw [memRead_of_not_conflicts h1]; exact busRead_of_peek h2

/-- `Fetch8()` where the core stores the byte. -/
theorem fetch8_of_peek {s : State} {v : Byte} (h1 : ¬s.conflicts s.regs.pc) (h2 : s.peek s.regs.pc = some v) :
    fetch8 s = .ok v (s.setPc (s.regs.pc + 1)) := by
  unfold fetch8; rw [memRead_of_peek h1 h2]; rfl

/-- The opcode fetch where the core stores the byte, the HALT bug not armed. -/
theorem fetchOpcode_of_peek {s : State} {v : Byte} (hb : s.haltBug = false) (h1 : ¬s.conflicts s.regs.pc)
    (h2 : s.peek s.regs.pc = some v) :
    fetchOpcode s = .ok v (({ s with opcodeAddr := s.regs.pc }).setPc (s.regs.pc + 1)) := by
  unfold fetchOpcode
  rw [memRead_of_peek h1 h2]
  dsimp only [Res.bind]
  rw [hb]; rfl

theorem peek_setPc (s : State) (v a : Addr) : (s.setPc v).peek a = s.peek a := rfl

theorem peek_opcodeAddr (s : State) (v a : Addr) : ({ s with opcodeAddr := v } : State).peek a = s.peek a := rfl

theorem holdsAt_congr {s t : State} (hd : t.dma = s.dma) (hp : ∀ a, t.peek a = s.peek a) (l : List Byte) (a : Addr)
    (h : s.holdsAt a l) : t.holdsAt a l := by
  induction l generalizing a with
  | nil => trivial
  | cons v l ih =>
    exact ⟨by unfold State.conflicts; rw [hd]; exact h.1, by rw [hp]; exact h.2.1, ih _ h.2.2⟩

/-! ## The end of a step -/

/-- "an inactive tick is a no-op" (95_test_vectors.md §5). -/
theorem dmaTicks_inactive : ∀ (n : Nat) (s : State), s.dma.active = false → dmaTicks n s = .ok () s
  | 0, _, _ => rfl
  | n + 1, s, h => by
    show Res.bind (dmaTick s) _ = _
    have : dmaTick s = .ok () s := by unfold dmaTick; rw [h]; rfl
    rw [this]; exact dmaTicks_inactive n s h

/-- The end of an instruction's step, as the statements write it. -/
theorem afterInstr_eq_endStep (before after : State) : afterInstr before after = endStep before after := by
  unfold afterInstr endStep
  split
  · rfl
  · have hp : (if before.eiPending = true ∧ after.eiPending = true
        then { after with ime := true, eiPending := false } else after) = after.promote before.eiPending := by
      unfold State.promote
      by_cases h : before.eiPending = true ∧ after.eiPending = true
      · rw [if_pos h, if_pos (by simp [h.1, h.2])]
      · rw [if_neg h, if_neg (by simpa using h)]
    rw [hp]
    congr 1
    unfold ticksOwed startedDma
    cases hb : before.dma.active <;> cases hu : after.dma.active
    · simp only [Bool.not_false, Bool.and_false, Bool.false_eq_true, if_false]
      have : (after.promote before.eiPending).dma.active = false := by
        unfold State.promote; split <;> exact hu
      rw [dmaTicks_inactive _ _ this]; rfl
    · rfl
    · rfl
    · rfl

/-- A step of a running core is that of its active step, after the environment's moves. -/
theorem step_of_running {s : State} (hs : s.mode ≠ .faulted) (h : s.takeEnv.mode = .running) :
    step s = activeStep s.takeEnv := by
  unfold step boundaryStep; rw [if_neg hs]; unfold cpuStep; rw [h]

end Sys2Proof.Machine
end

