-- ==== Sys2Proof/Tests/Slice0.lean ====
section
/-! SUPPORT. Tests of the model: words against the spec's encodings, single steps against the spec's vectors
(spec 95_test_vectors.md), and for each statement with hypotheses a witness that meets them. -/

namespace Sys2Proof.Tests

open Sys2Proof.Machine

/-! ## Well-formedness -/

/-- The one check: "The prefix byte 0xCB is not an instruction of its own" (46_misc.md R595). -/
theorem test_wf_prefix_refused : (Instr.prefixCb 0x37).wf = false := by decide

theorem test_wf_accepts : Instr.nop.wf = true ∧ (Instr.ldBcN16 0xFFFF).wf = true ∧ Instr.swapA.wf = true := by decide

/-- A sequence that ends before its instruction does is rejected (30_encoding.md R304). -/
theorem test_truncated : decode [] = .truncated ∧ decode [0x01, 0x34] = .truncated ∧ decode [0xCB] = .truncated := by
  decide

/-! ## Words, bit by bit from the rules' Encoding -/

/-- LD r,r' `0b01yyyzzz`, LD r,n8 `0b00yyy110`, LDH, LD (n16),A (40_load8.md R400, R401, R402, R412, R410). -/
theorem test_words_load8 :
    decode [0b01000001] = .ok .ldBC [] ∧ decode [0b00111110, 0xFF] = .ok (.ldAN8 0xFF) []
    ∧ decode [0b01101110] = .ok .ldLIndHl [] ∧ decode [0b11100010] = .ok .ldhIndCA []
    ∧ decode [0b11101010, 0x10, 0xE0] = .ok (.ldIndN16A 0xE010) [] := by decide

/-- LD rr,n16 `0b00pp0001`, PUSH `0b11pp0101`, POP `0b11pp0001`, LD SP,HL (41_load16.md R430, R433, R436, R432). -/
theorem test_words_load16 :
    decode [0b00010001, 0xEF, 0xBE] = .ok (.ldDeN16 0xBEEF) [] ∧ decode [0b11110101] = .ok .pushAf []
    ∧ decode [0b11100001] = .ok .popHl [] ∧ decode [0b11111001] = .ok .ldSpHl [] := by decide

/-- The ALU block `0b10yyyzzz`, its immediates `0b11yyy110`, INC `0b00yyy100` (42_alu8.md R450, R461, R474, R484). -/
theorem test_words_alu8 :
    decode [0b10011110] = .ok .sbcAIndHl [] ∧ decode [0b11100110, 0x0F] = .ok (.andN8 0x0F) []
    ∧ decode [0b00000100] = .ok .incB [] ∧ decode [0b10111111] = .ok .cpA [] ∧ decode [0b00100111] = .ok .daa [] := by
  decide

/-- ADD HL,rr `0b00pp1001`, INC rr `0b00pp0011`, DEC rr `0b00pp1011`, ADD SP,e8 (43_alu16.md R500 to R503). -/
theorem test_words_alu16 :
    decode [0b00101001] = .ok .addHlHl [] ∧ decode [0b00110011] = .ok .incSp [] ∧ decode [0b00001011] = .ok .decBc []
    ∧ decode [0b11101000, 0x80] = .ok (.addSpE8 0x80) [] := by decide

/-- The prefixed table: shifts `0b00yyyzzz`, BIT `0b01bbbzzz`, RES `0b10bbbzzz`, SET `0b11bbbzzz`
(44_rotate_shift_bit.md R524 to R545; `CB CB` is SET 1,E, R310). -/
theorem test_words_prefixed :
    decode [0b11001011, 0b00111111] = .ok .srlA [] ∧ decode [0b11001011, 0b01111100] = .ok .bit7H []
    ∧ decode [0b11001011, 0b10011110] = .ok .res3IndHl [] ∧ decode [0b11001011, 0b11001011] = .ok .set1E []
    ∧ decode [0b00010111] = .ok .rla [] := by decide

/-- JP cc `0b110cc010`, JR cc `0b001cc000`, CALL cc `0b110cc100`, RET cc `0b110cc000`, RST `0b11yyy111`
(45_control.md R562, R564, R566, R568, R569). -/
theorem test_words_control :
    decode [0b11010010, 0x34, 0x12] = .ok (.jpNcN16 0x1234) [] ∧ decode [0b00111000, 0x7F] = .ok (.jrCE8 0x7F) []
    ∧ decode [0b11001100, 0x00, 0x02] = .ok (.callZN16 0x0200) [] ∧ decode [0b11000000] = .ok .retNz []
    ∧ decode [0b11101111] = .ok .rst28 [] ∧ decode [0b11011001] = .ok .reti [] := by decide

/-- NOP, HALT, STOP with its second byte, DI, and an illegal opcode (46_misc.md R590 to R593, R597). -/
theorem test_words_misc :
    decode [0b00000000] = .ok .nop [] ∧ decode [0b01110110] = .ok .halt [] ∧ decode [0b00010000, 0x00] = .ok (.stop 0) []
    ∧ decode [0b11110011] = .ok .di [] ∧ decode [0b11010011] = .ok .illegalD3 [] := by decide

/-! ## Every row of the two tables (30_encoding.md R305, R306) -/

theorem test_row_0x :
    [[0x00], [0x01, 0x34, 0x12], [0x02], [0x03], [0x04], [0x05], [0x06, 0x5A], [0x07], [0x08, 0x34, 0x12],
     [0x09], [0x0A], [0x0B], [0x0C], [0x0D], [0x0E, 0x5A], [0x0F]].map decode =
    [.ok .nop [], .ok (.ldBcN16 0x1234) [], .ok .ldIndBcA [], .ok .incBc [], .ok .incB [], .ok .decB [],
     .ok (.ldBN8 0x5A) [], .ok .rlca [], .ok (.ldIndN16Sp 0x1234) [], .ok .addHlBc [], .ok .ldAIndBc [],
     .ok .decBc [], .ok .incC [], .ok .decC [], .ok (.ldCN8 0x5A) [], .ok .rrca []] := by
  decide

theorem test_row_1x :
    [[0x10, 0x5A], [0x11, 0x34, 0x12], [0x12], [0x13], [0x14], [0x15], [0x16, 0x5A], [0x17], [0x18, 0x5A],
     [0x19], [0x1A], [0x1B], [0x1C], [0x1D], [0x1E, 0x5A], [0x1F]].map decode =
    [.ok (.stop 0x5A) [], .ok (.ldDeN16 0x1234) [], .ok .ldIndDeA [], .ok .incDe [], .ok .incD [],
     .ok .decD [], .ok (.ldDN8 0x5A) [], .ok .rla [], .ok (.jrE8 0x5A) [], .ok .addHlDe [], .ok .ldAIndDe [],
     .ok .decDe [], .ok .incE [], .ok .decE [], .ok (.ldEN8 0x5A) [], .ok .rra []] := by
  decide

theorem test_row_2x :
    [[0x20, 0x5A], [0x21, 0x34, 0x12], [0x22], [0x23], [0x24], [0x25], [0x26, 0x5A], [0x27], [0x28, 0x5A],
     [0x29], [0x2A], [0x2B], [0x2C], [0x2D], [0x2E, 0x5A], [0x2F]].map decode =
    [.ok (.jrNzE8 0x5A) [], .ok (.ldHlN16 0x1234) [], .ok .ldIndHlIncA [], .ok .incHl [], .ok .incH [],
     .ok .decH [], .ok (.ldHN8 0x5A) [], .ok .daa [], .ok (.jrZE8 0x5A) [], .ok .addHlHl [],
     .ok .ldAIndHlInc [], .ok .decHl [], .ok .incL [], .ok .decL [], .ok (.ldLN8 0x5A) [], .ok .cpl []] := by
  decide

theorem test_row_3x :
    [[0x30, 0x5A], [0x31, 0x34, 0x12], [0x32], [0x33], [0x34], [0x35], [0x36, 0x5A], [0x37], [0x38, 0x5A],
     [0x39], [0x3A], [0x3B], [0x3C], [0x3D], [0x3E, 0x5A], [0x3F]].map decode =
    [.ok (.jrNcE8 0x5A) [], .ok (.ldSpN16 0x1234) [], .ok .ldIndHlDecA [], .ok .incSp [], .ok .incIndHl [],
     .ok .decIndHl [], .ok (.ldIndHlN8 0x5A) [], .ok .scf [], .ok (.jrCE8 0x5A) [], .ok .addHlSp [],
     .ok .ldAIndHlDec [], .ok .decSp [], .ok .incA [], .ok .decA [], .ok (.ldAN8 0x5A) [], .ok .ccf []] := by
  decide

theorem test_row_4x :
    [[0x40], [0x41], [0x42], [0x43], [0x44], [0x45], [0x46], [0x47], [0x48], [0x49], [0x4A], [0x4B], [0x4C],
     [0x4D], [0x4E], [0x4F]].map decode =
    [.ok .ldBB [], .ok .ldBC [], .ok .ldBD [], .ok .ldBE [], .ok .ldBH [], .ok .ldBL [], .ok .ldBIndHl [],
     .ok .ldBA [], .ok .ldCB [], .ok .ldCC [], .ok .ldCD [], .ok .ldCE [], .ok .ldCH [], .ok .ldCL [],
     .ok .ldCIndHl [], .ok .ldCA []] := by
  decide

theorem test_row_5x :
    [[0x50], [0x51], [0x52], [0x53], [0x54], [0x55], [0x56], [0x57], [0x58], [0x59], [0x5A], [0x5B], [0x5C],
     [0x5D], [0x5E], [0x5F]].map decode =
    [.ok .ldDB [], .ok .ldDC [], .ok .ldDD [], .ok .ldDE [], .ok .ldDH [], .ok .ldDL [], .ok .ldDIndHl [],
     .ok .ldDA [], .ok .ldEB [], .ok .ldEC [], .ok .ldED [], .ok .ldEE [], .ok .ldEH [], .ok .ldEL [],
     .ok .ldEIndHl [], .ok .ldEA []] := by
  decide

theorem test_row_6x :
    [[0x60], [0x61], [0x62], [0x63], [0x64], [0x65], [0x66], [0x67], [0x68], [0x69], [0x6A], [0x6B], [0x6C],
     [0x6D], [0x6E], [0x6F]].map decode =
    [.ok .ldHB [], .ok .ldHC [], .ok .ldHD [], .ok .ldHE [], .ok .ldHH [], .ok .ldHL [], .ok .ldHIndHl [],
     .ok .ldHA [], .ok .ldLB [], .ok .ldLC [], .ok .ldLD [], .ok .ldLE [], .ok .ldLH [], .ok .ldLL [],
     .ok .ldLIndHl [], .ok .ldLA []] := by
  decide

theorem test_row_7x :
    [[0x70], [0x71], [0x72], [0x73], [0x74], [0x75], [0x76], [0x77], [0x78], [0x79], [0x7A], [0x7B], [0x7C],
     [0x7D], [0x7E], [0x7F]].map decode =
    [.ok .ldIndHlB [], .ok .ldIndHlC [], .ok .ldIndHlD [], .ok .ldIndHlE [], .ok .ldIndHlH [],
     .ok .ldIndHlL [], .ok .halt [], .ok .ldIndHlA [], .ok .ldAB [], .ok .ldAC [], .ok .ldAD [], .ok .ldAE [],
     .ok .ldAH [], .ok .ldAL [], .ok .ldAIndHl [], .ok .ldAA []] := by
  decide

theorem test_row_8x :
    [[0x80], [0x81], [0x82], [0x83], [0x84], [0x85], [0x86], [0x87], [0x88], [0x89], [0x8A], [0x8B], [0x8C],
     [0x8D], [0x8E], [0x8F]].map decode =
    [.ok .addAB [], .ok .addAC [], .ok .addAD [], .ok .addAE [], .ok .addAH [], .ok .addAL [],
     .ok .addAIndHl [], .ok .addAA [], .ok .adcAB [], .ok .adcAC [], .ok .adcAD [], .ok .adcAE [],
     .ok .adcAH [], .ok .adcAL [], .ok .adcAIndHl [], .ok .adcAA []] := by
  decide

theorem test_row_9x :
    [[0x90], [0x91], [0x92], [0x93], [0x94], [0x95], [0x96], [0x97], [0x98], [0x99], [0x9A], [0x9B], [0x9C],
     [0x9D], [0x9E], [0x9F]].map decode =
    [.ok .subB [], .ok .subC [], .ok .subD [], .ok .subE [], .ok .subH [], .ok .subL [], .ok .subIndHl [],
     .ok .subA [], .ok .sbcAB [], .ok .sbcAC [], .ok .sbcAD [], .ok .sbcAE [], .ok .sbcAH [], .ok .sbcAL [],
     .ok .sbcAIndHl [], .ok .sbcAA []] := by
  decide

theorem test_row_Ax :
    [[0xA0], [0xA1], [0xA2], [0xA3], [0xA4], [0xA5], [0xA6], [0xA7], [0xA8], [0xA9], [0xAA], [0xAB], [0xAC],
     [0xAD], [0xAE], [0xAF]].map decode =
    [.ok .andB [], .ok .andC [], .ok .andD [], .ok .andE [], .ok .andH [], .ok .andL [], .ok .andIndHl [],
     .ok .andA [], .ok .xorB [], .ok .xorC [], .ok .xorD [], .ok .xorE [], .ok .xorH [], .ok .xorL [],
     .ok .xorIndHl [], .ok .xorA []] := by
  decide

theorem test_row_Bx :
    [[0xB0], [0xB1], [0xB2], [0xB3], [0xB4], [0xB5], [0xB6], [0xB7], [0xB8], [0xB9], [0xBA], [0xBB], [0xBC],
     [0xBD], [0xBE], [0xBF]].map decode =
    [.ok .orB [], .ok .orC [], .ok .orD [], .ok .orE [], .ok .orH [], .ok .orL [], .ok .orIndHl [],
     .ok .orA [], .ok .cpB [], .ok .cpC [], .ok .cpD [], .ok .cpE [], .ok .cpH [], .ok .cpL [],
     .ok .cpIndHl [], .ok .cpA []] := by
  decide

theorem test_row_Cx :
    [[0xC0], [0xC1], [0xC2, 0x34, 0x12], [0xC3, 0x34, 0x12], [0xC4, 0x34, 0x12], [0xC5], [0xC6, 0x5A], [0xC7],
     [0xC8], [0xC9], [0xCA, 0x34, 0x12], [0xCC, 0x34, 0x12], [0xCD, 0x34, 0x12], [0xCE, 0x5A], [0xCF]].map decode =
    [.ok .retNz [], .ok .popBc [], .ok (.jpNzN16 0x1234) [], .ok (.jpN16 0x1234) [],
     .ok (.callNzN16 0x1234) [], .ok .pushBc [], .ok (.addAN8 0x5A) [], .ok .rst00 [], .ok .retZ [],
     .ok .ret [], .ok (.jpZN16 0x1234) [], .ok (.callZN16 0x1234) [], .ok (.callN16 0x1234) [],
     .ok (.adcAN8 0x5A) [], .ok .rst08 []] := by
  decide

theorem test_row_Dx :
    [[0xD0], [0xD1], [0xD2, 0x34, 0x12], [0xD3], [0xD4, 0x34, 0x12], [0xD5], [0xD6, 0x5A], [0xD7], [0xD8],
     [0xD9], [0xDA, 0x34, 0x12], [0xDB], [0xDC, 0x34, 0x12], [0xDD], [0xDE, 0x5A], [0xDF]].map decode =
    [.ok .retNc [], .ok .popDe [], .ok (.jpNcN16 0x1234) [], .ok .illegalD3 [], .ok (.callNcN16 0x1234) [],
     .ok .pushDe [], .ok (.subN8 0x5A) [], .ok .rst10 [], .ok .retC [], .ok .reti [], .ok (.jpCN16 0x1234) [],
     .ok .illegalDB [], .ok (.callCN16 0x1234) [], .ok .illegalDD [], .ok (.sbcAN8 0x5A) [], .ok .rst18 []] := by
  decide

theorem test_row_Ex :
    [[0xE0, 0x5A], [0xE1], [0xE2], [0xE3], [0xE4], [0xE5], [0xE6, 0x5A], [0xE7], [0xE8, 0x5A], [0xE9],
     [0xEA, 0x34, 0x12], [0xEB], [0xEC], [0xED], [0xEE, 0x5A], [0xEF]].map decode =
    [.ok (.ldhIndN8A 0x5A) [], .ok .popHl [], .ok .ldhIndCA [], .ok .illegalE3 [], .ok .illegalE4 [],
     .ok .pushHl [], .ok (.andN8 0x5A) [], .ok .rst20 [], .ok (.addSpE8 0x5A) [], .ok .jpHl [],
     .ok (.ldIndN16A 0x1234) [], .ok .illegalEB [], .ok .illegalEC [], .ok .illegalED [], .ok (.xorN8 0x5A) [],
     .ok .rst28 []] := by
  decide

theorem test_row_Fx :
    [[0xF0, 0x5A], [0xF1], [0xF2], [0xF3], [0xF4], [0xF5], [0xF6, 0x5A], [0xF7], [0xF8, 0x5A], [0xF9],
     [0xFA, 0x34, 0x12], [0xFB], [0xFC], [0xFD], [0xFE, 0x5A], [0xFF]].map decode =
    [.ok (.ldhAIndN8 0x5A) [], .ok .popAf [], .ok .ldhAIndC [], .ok .di [], .ok .illegalF4 [], .ok .pushAf [],
     .ok (.orN8 0x5A) [], .ok .rst30 [], .ok (.ldHlSpE8 0x5A) [], .ok .ldSpHl [], .ok (.ldAIndN16 0x1234) [],
     .ok .ei [], .ok .illegalFC [], .ok .illegalFD [], .ok (.cpN8 0x5A) [], .ok .rst38 []] := by
  decide

theorem test_row_Cb0x :
    [[0xCB, 0x00], [0xCB, 0x01], [0xCB, 0x02], [0xCB, 0x03], [0xCB, 0x04], [0xCB, 0x05], [0xCB, 0x06],
     [0xCB, 0x07], [0xCB, 0x08], [0xCB, 0x09], [0xCB, 0x0A], [0xCB, 0x0B], [0xCB, 0x0C], [0xCB, 0x0D],
     [0xCB, 0x0E], [0xCB, 0x0F]].map decode =
    [.ok .rlcB [], .ok .rlcC [], .ok .rlcD [], .ok .rlcE [], .ok .rlcH [], .ok .rlcL [], .ok .rlcIndHl [],
     .ok .rlcA [], .ok .rrcB [], .ok .rrcC [], .ok .rrcD [], .ok .rrcE [], .ok .rrcH [], .ok .rrcL [],
     .ok .rrcIndHl [], .ok .rrcA []] := by
  decide

theorem test_row_Cb1x :
    [[0xCB, 0x10], [0xCB, 0x11], [0xCB, 0x12], [0xCB, 0x13], [0xCB, 0x14], [0xCB, 0x15], [0xCB, 0x16],
     [0xCB, 0x17], [0xCB, 0x18], [0xCB, 0x19], [0xCB, 0x1A], [0xCB, 0x1B], [0xCB, 0x1C], [0xCB, 0x1D],
     [0xCB, 0x1E], [0xCB, 0x1F]].map decode =
    [.ok .rlB [], .ok .rlC [], .ok .rlD [], .ok .rlE [], .ok .rlH [], .ok .rlL [], .ok .rlIndHl [],
     .ok .rlA [], .ok .rrB [], .ok .rrC [], .ok .rrD [], .ok .rrE [], .ok .rrH [], .ok .rrL [],
     .ok .rrIndHl [], .ok .rrA []] := by
  decide

theorem test_row_Cb2x :
    [[0xCB, 0x20], [0xCB, 0x21], [0xCB, 0x22], [0xCB, 0x23], [0xCB, 0x24], [0xCB, 0x25], [0xCB, 0x26],
     [0xCB, 0x27], [0xCB, 0x28], [0xCB, 0x29], [0xCB, 0x2A], [0xCB, 0x2B], [0xCB, 0x2C], [0xCB, 0x2D],
     [0xCB, 0x2E], [0xCB, 0x2F]].map decode =
    [.ok .slaB [], .ok .slaC [], .ok .slaD [], .ok .slaE [], .ok .slaH [], .ok .slaL [], .ok .slaIndHl [],
     .ok .slaA [], .ok .sraB [], .ok .sraC [], .ok .sraD [], .ok .sraE [], .ok .sraH [], .ok .sraL [],
     .ok .sraIndHl [], .ok .sraA []] := by
  decide

theorem test_row_Cb3x :
    [[0xCB, 0x30], [0xCB, 0x31], [0xCB, 0x32], [0xCB, 0x33], [0xCB, 0x34], [0xCB, 0x35], [0xCB, 0x36],
     [0xCB, 0x37], [0xCB, 0x38], [0xCB, 0x39], [0xCB, 0x3A], [0xCB, 0x3B], [0xCB, 0x3C], [0xCB, 0x3D],
     [0xCB, 0x3E], [0xCB, 0x3F]].map decode =
    [.ok .swapB [], .ok .swapC [], .ok .swapD [], .ok .swapE [], .ok .swapH [], .ok .swapL [],
     .ok .swapIndHl [], .ok .swapA [], .ok .srlB [], .ok .srlC [], .ok .srlD [], .ok .srlE [], .ok .srlH [],
     .ok .srlL [], .ok .srlIndHl [], .ok .srlA []] := by
  decide

theorem test_row_Cb4x :
    [[0xCB, 0x40], [0xCB, 0x41], [0xCB, 0x42], [0xCB, 0x43], [0xCB, 0x44], [0xCB, 0x45], [0xCB, 0x46],
     [0xCB, 0x47], [0xCB, 0x48], [0xCB, 0x49], [0xCB, 0x4A], [0xCB, 0x4B], [0xCB, 0x4C], [0xCB, 0x4D],
     [0xCB, 0x4E], [0xCB, 0x4F]].map decode =
    [.ok .bit0B [], .ok .bit0C [], .ok .bit0D [], .ok .bit0E [], .ok .bit0H [], .ok .bit0L [],
     .ok .bit0IndHl [], .ok .bit0A [], .ok .bit1B [], .ok .bit1C [], .ok .bit1D [], .ok .bit1E [],
     .ok .bit1H [], .ok .bit1L [], .ok .bit1IndHl [], .ok .bit1A []] := by
  decide

theorem test_row_Cb5x :
    [[0xCB, 0x50], [0xCB, 0x51], [0xCB, 0x52], [0xCB, 0x53], [0xCB, 0x54], [0xCB, 0x55], [0xCB, 0x56],
     [0xCB, 0x57], [0xCB, 0x58], [0xCB, 0x59], [0xCB, 0x5A], [0xCB, 0x5B], [0xCB, 0x5C], [0xCB, 0x5D],
     [0xCB, 0x5E], [0xCB, 0x5F]].map decode =
    [.ok .bit2B [], .ok .bit2C [], .ok .bit2D [], .ok .bit2E [], .ok .bit2H [], .ok .bit2L [],
     .ok .bit2IndHl [], .ok .bit2A [], .ok .bit3B [], .ok .bit3C [], .ok .bit3D [], .ok .bit3E [],
     .ok .bit3H [], .ok .bit3L [], .ok .bit3IndHl [], .ok .bit3A []] := by
  decide

theorem test_row_Cb6x :
    [[0xCB, 0x60], [0xCB, 0x61], [0xCB, 0x62], [0xCB, 0x63], [0xCB, 0x64], [0xCB, 0x65], [0xCB, 0x66],
     [0xCB, 0x67], [0xCB, 0x68], [0xCB, 0x69], [0xCB, 0x6A], [0xCB, 0x6B], [0xCB, 0x6C], [0xCB, 0x6D],
     [0xCB, 0x6E], [0xCB, 0x6F]].map decode =
    [.ok .bit4B [], .ok .bit4C [], .ok .bit4D [], .ok .bit4E [], .ok .bit4H [], .ok .bit4L [],
     .ok .bit4IndHl [], .ok .bit4A [], .ok .bit5B [], .ok .bit5C [], .ok .bit5D [], .ok .bit5E [],
     .ok .bit5H [], .ok .bit5L [], .ok .bit5IndHl [], .ok .bit5A []] := by
  decide

theorem test_row_Cb7x :
    [[0xCB, 0x70], [0xCB, 0x71], [0xCB, 0x72], [0xCB, 0x73], [0xCB, 0x74], [0xCB, 0x75], [0xCB, 0x76],
     [0xCB, 0x77], [0xCB, 0x78], [0xCB, 0x79], [0xCB, 0x7A], [0xCB, 0x7B], [0xCB, 0x7C], [0xCB, 0x7D],
     [0xCB, 0x7E], [0xCB, 0x7F]].map decode =
    [.ok .bit6B [], .ok .bit6C [], .ok .bit6D [], .ok .bit6E [], .ok .bit6H [], .ok .bit6L [],
     .ok .bit6IndHl [], .ok .bit6A [], .ok .bit7B [], .ok .bit7C [], .ok .bit7D [], .ok .bit7E [],
     .ok .bit7H [], .ok .bit7L [], .ok .bit7IndHl [], .ok .bit7A []] := by
  decide

theorem test_row_Cb8x :
    [[0xCB, 0x80], [0xCB, 0x81], [0xCB, 0x82], [0xCB, 0x83], [0xCB, 0x84], [0xCB, 0x85], [0xCB, 0x86],
     [0xCB, 0x87], [0xCB, 0x88], [0xCB, 0x89], [0xCB, 0x8A], [0xCB, 0x8B], [0xCB, 0x8C], [0xCB, 0x8D],
     [0xCB, 0x8E], [0xCB, 0x8F]].map decode =
    [.ok .res0B [], .ok .res0C [], .ok .res0D [], .ok .res0E [], .ok .res0H [], .ok .res0L [],
     .ok .res0IndHl [], .ok .res0A [], .ok .res1B [], .ok .res1C [], .ok .res1D [], .ok .res1E [],
     .ok .res1H [], .ok .res1L [], .ok .res1IndHl [], .ok .res1A []] := by
  decide

theorem test_row_Cb9x :
    [[0xCB, 0x90], [0xCB, 0x91], [0xCB, 0x92], [0xCB, 0x93], [0xCB, 0x94], [0xCB, 0x95], [0xCB, 0x96],
     [0xCB, 0x97], [0xCB, 0x98], [0xCB, 0x99], [0xCB, 0x9A], [0xCB, 0x9B], [0xCB, 0x9C], [0xCB, 0x9D],
     [0xCB, 0x9E], [0xCB, 0x9F]].map decode =
    [.ok .res2B [], .ok .res2C [], .ok .res2D [], .ok .res2E [], .ok .res2H [], .ok .res2L [],
     .ok .res2IndHl [], .ok .res2A [], .ok .res3B [], .ok .res3C [], .ok .res3D [], .ok .res3E [],
     .ok .res3H [], .ok .res3L [], .ok .res3IndHl [], .ok .res3A []] := by
  decide

theorem test_row_CbAx :
    [[0xCB, 0xA0], [0xCB, 0xA1], [0xCB, 0xA2], [0xCB, 0xA3], [0xCB, 0xA4], [0xCB, 0xA5], [0xCB, 0xA6],
     [0xCB, 0xA7], [0xCB, 0xA8], [0xCB, 0xA9], [0xCB, 0xAA], [0xCB, 0xAB], [0xCB, 0xAC], [0xCB, 0xAD],
     [0xCB, 0xAE], [0xCB, 0xAF]].map decode =
    [.ok .res4B [], .ok .res4C [], .ok .res4D [], .ok .res4E [], .ok .res4H [], .ok .res4L [],
     .ok .res4IndHl [], .ok .res4A [], .ok .res5B [], .ok .res5C [], .ok .res5D [], .ok .res5E [],
     .ok .res5H [], .ok .res5L [], .ok .res5IndHl [], .ok .res5A []] := by
  decide

theorem test_row_CbBx :
    [[0xCB, 0xB0], [0xCB, 0xB1], [0xCB, 0xB2], [0xCB, 0xB3], [0xCB, 0xB4], [0xCB, 0xB5], [0xCB, 0xB6],
     [0xCB, 0xB7], [0xCB, 0xB8], [0xCB, 0xB9], [0xCB, 0xBA], [0xCB, 0xBB], [0xCB, 0xBC], [0xCB, 0xBD],
     [0xCB, 0xBE], [0xCB, 0xBF]].map decode =
    [.ok .res6B [], .ok .res6C [], .ok .res6D [], .ok .res6E [], .ok .res6H [], .ok .res6L [],
     .ok .res6IndHl [], .ok .res6A [], .ok .res7B [], .ok .res7C [], .ok .res7D [], .ok .res7E [],
     .ok .res7H [], .ok .res7L [], .ok .res7IndHl [], .ok .res7A []] := by
  decide

theorem test_row_CbCx :
    [[0xCB, 0xC0], [0xCB, 0xC1], [0xCB, 0xC2], [0xCB, 0xC3], [0xCB, 0xC4], [0xCB, 0xC5], [0xCB, 0xC6],
     [0xCB, 0xC7], [0xCB, 0xC8], [0xCB, 0xC9], [0xCB, 0xCA], [0xCB, 0xCB], [0xCB, 0xCC], [0xCB, 0xCD],
     [0xCB, 0xCE], [0xCB, 0xCF]].map decode =
    [.ok .set0B [], .ok .set0C [], .ok .set0D [], .ok .set0E [], .ok .set0H [], .ok .set0L [],
     .ok .set0IndHl [], .ok .set0A [], .ok .set1B [], .ok .set1C [], .ok .set1D [], .ok .set1E [],
     .ok .set1H [], .ok .set1L [], .ok .set1IndHl [], .ok .set1A []] := by
  decide

theorem test_row_CbDx :
    [[0xCB, 0xD0], [0xCB, 0xD1], [0xCB, 0xD2], [0xCB, 0xD3], [0xCB, 0xD4], [0xCB, 0xD5], [0xCB, 0xD6],
     [0xCB, 0xD7], [0xCB, 0xD8], [0xCB, 0xD9], [0xCB, 0xDA], [0xCB, 0xDB], [0xCB, 0xDC], [0xCB, 0xDD],
     [0xCB, 0xDE], [0xCB, 0xDF]].map decode =
    [.ok .set2B [], .ok .set2C [], .ok .set2D [], .ok .set2E [], .ok .set2H [], .ok .set2L [],
     .ok .set2IndHl [], .ok .set2A [], .ok .set3B [], .ok .set3C [], .ok .set3D [], .ok .set3E [],
     .ok .set3H [], .ok .set3L [], .ok .set3IndHl [], .ok .set3A []] := by
  decide

theorem test_row_CbEx :
    [[0xCB, 0xE0], [0xCB, 0xE1], [0xCB, 0xE2], [0xCB, 0xE3], [0xCB, 0xE4], [0xCB, 0xE5], [0xCB, 0xE6],
     [0xCB, 0xE7], [0xCB, 0xE8], [0xCB, 0xE9], [0xCB, 0xEA], [0xCB, 0xEB], [0xCB, 0xEC], [0xCB, 0xED],
     [0xCB, 0xEE], [0xCB, 0xEF]].map decode =
    [.ok .set4B [], .ok .set4C [], .ok .set4D [], .ok .set4E [], .ok .set4H [], .ok .set4L [],
     .ok .set4IndHl [], .ok .set4A [], .ok .set5B [], .ok .set5C [], .ok .set5D [], .ok .set5E [],
     .ok .set5H [], .ok .set5L [], .ok .set5IndHl [], .ok .set5A []] := by
  decide

theorem test_row_CbFx :
    [[0xCB, 0xF0], [0xCB, 0xF1], [0xCB, 0xF2], [0xCB, 0xF3], [0xCB, 0xF4], [0xCB, 0xF5], [0xCB, 0xF6],
     [0xCB, 0xF7], [0xCB, 0xF8], [0xCB, 0xF9], [0xCB, 0xFA], [0xCB, 0xFB], [0xCB, 0xFC], [0xCB, 0xFD],
     [0xCB, 0xFE], [0xCB, 0xFF]].map decode =
    [.ok .set6B [], .ok .set6C [], .ok .set6D [], .ok .set6E [], .ok .set6H [], .ok .set6L [],
     .ok .set6IndHl [], .ok .set6A [], .ok .set7B [], .ok .set7C [], .ok .set7D [], .ok .set7E [],
     .ok .set7H [], .ok .set7L [], .ok .set7IndHl [], .ok .set7A []] := by
  decide

/-! ## Single steps: the spec's vectors (95_test_vectors.md §2, §5 to §7), whose start state `at200` gives -/

/-- All registers zero but SP (95_test_vectors.md, conventions). -/
def zero : Regs where
  a := 0
  f := 0
  b := 0
  c := 0
  d := 0
  e := 0
  h := 0
  l := 0
  sp := 0xFFFE
  pc := 0x0200

/-- The vectors' start state, with these registers and these bytes at pc. -/
def at200 (g : Regs) (bytes : List Byte) : State :=
  ({ State.reset with regs := g, iflag := 0 }).placeAll g.pc bytes

/-- The outcome is a next state of which `p` holds. -/
def lands (o : Outcome) (p : State → Bool) : Bool :=
  match o with
  | .next t => p t
  | .fault _ => false
  | .refused _ => false

/-- The next state, where there is one. -/
def nextOf (o : Outcome) : Option State :=
  match o with
  | .next t => some t
  | .fault _ => none
  | .refused _ => none

theorem test_ld_b_c : lands (step (at200 { zero with c := 0x5A } [0x41]))
    (fun t => t.regs.b == 0x5A && t.regs.pc == 0x0201 && t.cycles == 1) = true := by decide

theorem test_ld_a_hl_inc : lands (step ((at200 { zero with h := 0xC0, l := 0xFF } [0x2A]).place 0xC0FF 0x77))
    (fun t => t.regs.a == 0x77 && t.regs.hl == 0xC100 && t.cycles == 2) = true := by decide

theorem test_ld_hl_dec_a : lands (step (at200 { zero with a := 0x9C, h := 0xC0 } [0x32]))
    (fun t => t.regs.hl == 0xBFFF && t.peek 0xC000 == some 0x9C && t.cycles == 2) = true := by decide

theorem test_ldh_a_c_reads_if : lands (step { at200 { zero with c := 0x0F } [0xF2] with iflag := 0x03 })
    (fun t => t.regs.a == 0xE3 && t.cycles == 2) = true := by decide

theorem test_ld_echo : lands (step (at200 { zero with a := 0x31 } [0xEA, 0x10, 0xE0]))
    (fun t => t.peek 0xC010 == some 0x31 && t.cycles == 4) = true := by decide

theorem test_ld_n16_sp : lands (step (at200 { zero with sp := 0xFFF8 } [0x08, 0x00, 0xC1]))
    (fun t => t.peek 0xC100 == some 0xF8 && t.peek 0xC101 == some 0xFF && t.cycles == 5) = true := by decide

theorem test_push_bc : lands (step (at200 { zero with b := 0x12, c := 0x34 } [0xC5]))
    (fun t => t.regs.sp == 0xFFFC && t.peek 0xFFFD == some 0x12 && t.peek 0xFFFC == some 0x34) = true := by decide

theorem test_pop_af : lands
    (step (((at200 { zero with sp := 0xFFFC } [0xF1]).place 0xFFFC 0xFF).place 0xFFFD 0x12))
    (fun t => t.regs.af == 0x12F0 && t.regs.sp == 0xFFFE && t.cycles == 3) = true := by decide

theorem test_ld_hl_sp : lands (step (at200 { zero with sp := 0xFF01 } [0xF8, 0xFF]))
    (fun t => t.regs.hl == 0xFF00 && t.regs.f == 0x30 && t.cycles == 3) = true := by decide

theorem test_sub_wraps : lands (step (at200 zero [0xD6, 0x01]))
    (fun t => t.regs.a == 0xFF && t.regs.f == 0x70) = true := by decide

theorem test_add_carries : lands (step (at200 { zero with a := 0x80, b := 0x80 } [0x80]))
    (fun t => t.regs.a == 0x00 && t.regs.f == 0x90) = true := by decide

theorem test_adc_carry_in : lands (step (at200 { zero with a := 0xFF, f := 0x10 } [0xCE, 0x00]))
    (fun t => t.regs.a == 0x00 && t.regs.f == 0xB0) = true := by decide

theorem test_sbc_borrow_in : lands (step (at200 { zero with a := 0x10, f := 0x10 } [0xDE, 0x0F]))
    (fun t => t.regs.a == 0x00 && t.regs.f == 0xE0) = true := by decide

theorem test_cp_keeps_a : lands (step (at200 { zero with a := 0x3C } [0xFE, 0x40]))
    (fun t => t.regs.a == 0x3C && t.regs.f == 0x50) = true := by decide

theorem test_and_sets_h : lands (step (at200 { zero with a := 0xF0, f := 0x10 } [0xE6, 0x0F]))
    (fun t => t.regs.a == 0x00 && t.regs.f == 0xA0) = true := by decide

theorem test_inc_keeps_c : lands (step (at200 { zero with b := 0xFF, f := 0x10 } [0x04]))
    (fun t => t.regs.b == 0x00 && t.regs.f == 0xB0) = true := by decide

theorem test_dec_borrows : lands (step (at200 zero [0x05]))
    (fun t => t.regs.b == 0xFF && t.regs.f == 0x60) = true := by decide

theorem test_inc_hl : lands (step ((at200 { zero with h := 0xC0 } [0x34]).place 0xC000 0x7F))
    (fun t => t.peek 0xC000 == some 0x80 && t.regs.f == 0x20 && t.cycles == 3) = true := by decide

theorem test_daa_add : lands (step (at200 { zero with a := 0x9A } [0x27]))
    (fun t => t.regs.a == 0x00 && t.regs.f == 0x90) = true := by decide

theorem test_daa_subtract : lands (step (at200 { zero with a := 0xFA, f := 0x60 } [0x27]))
    (fun t => t.regs.a == 0xF4 && t.regs.f == 0x40) = true := by decide

theorem test_cpl : lands (step (at200 { zero with a := 0xFF } [0x2F]))
    (fun t => t.regs.a == 0x00 && t.regs.f == 0x60) = true := by decide

theorem test_scf : lands (step (at200 { zero with f := 0xE0 } [0x37])) (fun t => t.regs.f == 0x90) = true := by decide

theorem test_ccf : lands (step (at200 { zero with f := 0xF0 } [0x3F])) (fun t => t.regs.f == 0x80) = true := by decide

theorem test_add_hl_bc : lands (step (at200 { zero with h := 0x0F, l := 0xFF, c := 0x01, f := 0x80 } [0x09]))
    (fun t => t.regs.hl == 0x1000 && t.regs.f == 0xA0 && t.cycles == 2) = true := by decide

theorem test_add_sp : lands (step (at200 { zero with sp := 0xFFF8, f := 0x80 } [0xE8, 0x08]))
    (fun t => t.regs.sp == 0x0000 && t.regs.f == 0x30 && t.cycles == 4) = true := by decide

theorem test_rla_clears_z : lands (step (at200 { zero with a := 0x80 } [0x17]))
    (fun t => t.regs.a == 0x00 && t.regs.f == 0x10) = true := by decide

theorem test_rr_hl : lands (step ((at200 { zero with h := 0xC0, f := 0x10 } [0xCB, 0x1E]).place 0xC000 0x01))
    (fun t => t.peek 0xC000 == some 0x80 && t.regs.f == 0x10 && t.cycles == 4) = true := by decide

theorem test_sra_keeps_sign : lands (step (at200 { zero with e := 0x81 } [0xCB, 0x2B]))
    (fun t => t.regs.e == 0xC0 && t.regs.f == 0x10) = true := by decide

theorem test_swap : lands (step (at200 { zero with h := 0xF1 } [0xCB, 0x34]))
    (fun t => t.regs.h == 0x1F && t.regs.f == 0x00) = true := by decide

theorem test_bit_keeps_c : lands (step (at200 { zero with h := 0x7F, f := 0x10 } [0xCB, 0x7C]))
    (fun t => t.regs.h == 0x7F && t.regs.f == 0xB0 && t.cycles == 2) = true := by decide

theorem test_res_hl : lands (step ((at200 { zero with h := 0xC0, f := 0xF0 } [0xCB, 0x86]).place 0xC000 0xFF))
    (fun t => t.peek 0xC000 == some 0xFE && t.regs.f == 0xF0 && t.cycles == 4) = true := by decide

theorem test_set_1_e : lands (step (at200 zero [0xCB, 0xCB])) (fun t => t.regs.e == 0x02 && t.cycles == 2) = true := by
  decide

theorem test_jr_backward : lands (step (at200 zero [0x18, 0x80]))
    (fun t => t.regs.pc == 0x0182 && t.cycles == 3) = true := by decide

theorem test_jr_wraps : lands (step (at200 { zero with pc := 0xFFFC } [0x18, 0x02]))
    (fun t => t.regs.pc == 0x0000) = true := by decide

theorem test_jp_c_not_taken : lands (step (at200 zero [0xDA, 0x34, 0x12]))
    (fun t => t.regs.pc == 0x0203 && t.cycles == 3) = true := by decide

theorem test_call : lands (step (at200 zero [0xCD, 0x00, 0x10]))
    (fun t => t.regs.sp == 0xFFFC && t.peek 0xFFFD == some 0x02 && t.peek 0xFFFC == some 0x03 && t.regs.pc == 0x1000
      && t.cycles == 6) = true := by decide

theorem test_ret_nc_taken : lands
    (step (((at200 { zero with sp := 0xFFFC } [0xD0]).place 0xFFFC 0x03).place 0xFFFD 0x02))
    (fun t => t.regs.sp == 0xFFFE && t.regs.pc == 0x0203 && t.cycles == 5) = true := by decide

theorem test_reti : lands
    (step (((at200 { zero with sp := 0xFFFC } [0xD9]).place 0xFFFC 0x03).place 0xFFFD 0x02))
    (fun t => t.ime && t.regs.pc == 0x0203 && t.cycles == 4) = true := by decide

/-- EI takes effect at the end of the next instruction (46_misc.md R594). -/
theorem test_ei_delay : (nextOf (step (at200 zero [0xFB, 0x00]))).map
    (fun t => (t.ime, t.eiPending, lands (step t) fun u => u.ime && !u.eiPending && u.regs.pc == 0x0202)) =
    some (false, true, true) := by decide

theorem test_halt : lands (step { at200 zero [0x76] with ime := true, ie := 0x01 })
    (fun t => t.mode == .halted && t.regs.pc == 0x0201 && t.cycles == 1) = true := by decide

/-- The HALT bug: `76 3E 14` reads 3E twice (46_misc.md R596). -/
theorem test_halt_bug : (nextOf (step { at200 zero [0x76, 0x3E, 0x14] with ie := 0x04, iflag := 0x04 })).map
    (fun t => (t.mode, t.haltBug, lands (step t) fun u => u.regs.a == 0x3E && u.regs.pc == 0x0202)) =
    some (.running, true, true) := by decide

theorem test_stop : lands (step (at200 zero [0x10, 0x00]))
    (fun t => t.mode == .stopped && t.regs.pc == 0x0202 && t.cycles == 1) = true := by decide

/-- The state in which a run ended, where it ended in a final one. -/
def finalOf (r : RunEnd) : Option State :=
  match r with
  | .final t => some t
  | .stopped _ => none
  | .faulted _ => none
  | .refused _ => none

/-- A `Wake` that leaves the core running at END_PC ends the run: the instruction there does not run
(70_reset_and_hazards.md R712). -/
theorem test_wake_at_end :
    (finalOf (runToEnd 0x0200 1 { at200 zero [0x3C] with mode := .stopped, schedule := [[.wake]] })).map
      (fun t => (t.mode, t.regs.pc, t.regs.a, t.cycles)) = some (.running, 0x0200, 0x00, 0) := by decide

/-- A run that steps to END_PC, and the host's `Stop` of a halted core (70_reset_and_hazards.md R712, R713). -/
theorem test_run_to_end :
    (finalOf (runToEnd 0x0201 1 (at200 zero [0x3C]))).map (fun t => (t.regs.pc, t.regs.a)) = some (0x0201, 0x01)
    ∧ finalOf (runToEnd 0x0200 1 { at200 zero [0x3C] with mode := .halted }) = none := by decide

theorem test_illegal : lands (step (at200 zero [0xDD]))
    (fun t => t.mode == .faulted && t.fault == some (.illegalOpcode 0xDD 0x0200) && t.cycles == 0) = true := by decide

theorem test_dispatch : lands (step { at200 zero [0x00] with ime := true, ie := 0x1F, iflag := 0x05 })
    (fun t => t.regs.pc == 0x0040 && t.regs.sp == 0xFFFC && t.peek 0xFFFD == some 0x02 && t.iflag == 0x04 && !t.ime
      && t.cycles == 5) = true := by decide

/-- A push into IE withdraws the request: pc goes to 0x0000 (60_exceptions.md R616). -/
theorem test_dispatch_withdrawn : lands
    (step { at200 { zero with sp := 0x0000 } [0x00] with ime := true, ie := 0x01, iflag := 0x01 })
    (fun t => t.regs.pc == 0x0000 && t.ie == 0x02 && t.regs.sp == 0xFFFE && t.iflag == 0x01) = true := by decide

/-- The write that starts a DMA transfer gives it no tick in its own step (60_exceptions.md R655). -/
theorem test_dma_start : lands (step (at200 { zero with a := 0xC0 } [0xE0, 0x46]))
    (fun t => t.dma == { active := true, delay := 1, count := 0 } && t.dmaReg == 0xC0 && t.cycles == 3) = true := by
  decide

/-- A DMA page of 0xFE faults with the register already written (60_exceptions.md R653). -/
theorem test_dma_page_faults : lands (step (at200 { zero with a := 0xFE } [0xE0, 0x46]))
    (fun t => t.dmaReg == 0xFE && t.fault == some (.unmodelledDma 0xFF46 0xFE)) = true := by decide

/-- The day counter wraps from 0x1FF to 0 and sets the carry (60_exceptions.md R641). -/
theorem test_rtc_day_wraps :
    Rtc.tick { sec := 59, min := 59, hour := 23, dayLo := 0xFF, dayHi := true, halt := false, carry := false } =
    { Rtc.zero with carry := true } := by decide

/-- A state with this cartridge and sixteen ROM banks. -/
def withMbc (m : Mbc) : State := { State.reset with cart := { Cart.unloaded with romBanks := 16, ramBanks := 4, mbc := m } }

/-- MBC1 with bank1 = 0 and bank2 = 1 maps bank 0x21 (20_memory.md R242), here 1 of 16. -/
theorem test_mbc1_bank : (withMbc (.mbc1 { ramEnable := false, bank1 := 0, bank2 := 1, mode := true })).locate 0x4000
    = .rom (1 * 0x4000) := by decide

/-- "MBC1, 2 banks, bank1 = 2": "[4000]=00 (2 mod 2)" (95_test_vectors.md section 3, R225; log entry 18). -/
theorem test_mbc1_two_banks :
    ({ Cart.unloaded with mbc := .mbc1 { ramEnable := false, bank1 := 2, bank2 := 0, mode := false } } : Cart).romOffset
      0x4000 = 0 := by decide

/-- MBC5 has no remap of bank 0 (20_memory.md R262). -/
theorem test_mbc5_bank_zero : (withMbc
    (.mbc5 { ramEnable := true, romBankLo := 0, romBankHi := 0, ramBank := 0x0A, rumble := false })).locate 0x4001 =
    .rom 1 := by decide

/-! ## The host's two names -/

theorem test_table_words : decodeTableWord 8 0x01 = some (.ldBcN16 0) ∧ decodeTableWord 8 0xCB = some (.prefixCb 0)
    ∧ decodeTableWord 16 0xCB37 = some .swapA := by decide

theorem test_fetch_word : lands (step (State.reset.withFetchWord 16 0xCB37)) (fun t => t.regs.a == 0x10) = true := by
  decide

/-! ## Witnesses: for each statement with hypotheses, states and operands that meet them, clause by clause -/

/-- CGB mode. -/
def cgb : State := { State.reset with params := { Params.default with cgbMode := true } }

/-- The fault policies. -/
def strict : State :=
  { State.reset with params := { Params.default with echoPolicy := .fault, prohibitedPolicy := .fault } }

/-- Open bus in the prohibited range, and a picture unit that may block. -/
def blocked : State :=
  { State.reset with params := { Params.default with prohibitedPolicy := .openBus, videoBusBlocking := true } }

/-- A DMA transfer in progress from work RAM. -/
def busy : State := { State.reset with dmaReg := 0xC0, dma := { active := true, delay := 0, count := 0 } }

/-- The addresses lie in the range, its ends included. -/
def within (lo hi : Nat) (as : List Addr) : Bool := as.all fun a => decide (lo ≤ a.toNat) && decide (a.toNat ≤ hi)

/-- HL at `a`. -/
def hlAt (s : State) (h l : Byte) : State := { s with regs := { s.regs with h := h, l := l } }

/-- SP at `a`. -/
def spAt (s : State) (a : Addr) : State := s.setSp a

theorem test_witness_DecodeOfEncode : (Instr.callN16 0xFFFF).wf = true ∧ Instr.set7IndHl.wf = true := by decide

theorem test_witness_EncodeOfDecode : decode [0xCB, 0xCB, 0x00] = .ok .set1E [0x00] := by decide

theorem test_witness_TablesByFields :
    (∀ op ∈ [0x40#8, 0x76, 0x7F], op.toNat / 64 = 1) ∧ (∀ op ∈ [0x80#8, 0xBF], op.toNat / 64 = 2)
    ∧ (∀ op ∈ [0x04#8, 0x34, 0x3C], op.toNat / 64 = 0 ∧ (field3 op 0).val = 4)
    ∧ (∀ op ∈ [0x05#8, 0x3D], op.toNat / 64 = 0 ∧ (field3 op 0).val = 5)
    ∧ (∀ op ∈ [0x06#8, 0x36, 0x3E], op.toNat / 64 = 0 ∧ (field3 op 0).val = 6)
    ∧ (∀ op ∈ [0xC6#8, 0xFE], op.toNat / 64 = 3 ∧ (field3 op 0).val = 6)
    ∧ (∀ op ∈ [0xC7#8, 0xFF], op.toNat / 64 = 3 ∧ (field3 op 0).val = 7) := by decide

theorem test_witness_ResetValues :
    State.reset.cart.mbc = Mbc.atReset .noMbc { live := .zero, latched := .zero } ∧ 2 ≤ State.reset.cart.romBanks
    ∧ within 0x4000 0x7FFF [0x4000, 0x7FFF] = true := by decide

theorem test_witness_ResetMeetsInvariants :
    InitialMemory.unlisted.wram.wf ∧ InitialMemory.unlisted.hram.wf ∧ InitialMemory.unlisted.vram.wf
    ∧ InitialMemory.unlisted.oam.wf ∧ Memory.wf [] ∧ InitialMemory.unlisted.cartRam.wf
    ∧ InitialMemory.unlisted.nram.wf := by decide

theorem test_witness_Construction_short : ([] : List Byte).length < 0x0150 := by decide

theorem test_witness_Construction_type :
    0x0150 ≤ (List.replicate 0x0150 (0xFF : Byte)).length
    ∧ cartTypeOf ((List.replicate 0x0150 (0xFF : Byte)).getD 0x0147 0) = none := by decide +kernel

theorem test_witness_Construction_rom :
    0x0150 ≤ (List.replicate 0x0150 (0x05 : Byte)).length
    ∧ cartTypeOf ((List.replicate 0x0150 (0x05 : Byte)).getD 0x0147 0) = some ⟨.mbc2, false, false, false, false⟩
    ∧ maxRomCode .mbc2 < ((List.replicate 0x0150 (0x05 : Byte)).getD 0x0148 0).toNat := by decide +kernel

/-- A header of an MBC1 cartridge with RAM, whose RAM-size code is one that MBC1 does not take. -/
def badRam : List Byte := List.replicate 0x0149 0x02 ++ [0x05, 0x00, 0x00, 0x00, 0x00, 0x00, 0x00]

theorem test_witness_Construction_ram :
    0x0150 ≤ badRam.length ∧ cartTypeOf (badRam.getD 0x0147 0) = some ⟨.mbc1, true, false, false, false⟩
    ∧ romBanksOf (badRam.getD 0x0148 0) = some 8 ∧ maxRamCode .mbc1 < (badRam.getD 0x0149 0).toNat := by decide +kernel

theorem test_witness_Construction_size :
    cartTypeOf ((List.replicate 0x0150 (0x01 : Byte)).getD 0x0147 0) = some ⟨.mbc1, false, false, false, false⟩
    ∧ romBanksOf ((List.replicate 0x0150 (0x01 : Byte)).getD 0x0148 0) = some 4
    ∧ (List.replicate 0x0150 (0x01 : Byte)).length ≠ 4 * 0x4000 := by decide +kernel

/-- The image of 0x8000 zero bytes is a whole NoMBC cartridge. -/
theorem test_witness_Construction_ok :
    (List.replicate 0x8000 (0 : Byte)).length = 2 * 0x4000
    ∧ cartTypeOf ((List.replicate 0x8000 (0 : Byte)).getD 0x0147 0) = some ⟨.noMbc, false, false, false, false⟩
    ∧ romBanksOf ((List.replicate 0x8000 (0 : Byte)).getD 0x0148 0) = some 2 := by
  rw [List.getD_replicate _ (by decide), List.getD_replicate _ (by decide)]
  exact ⟨List.length_replicate, rfl, rfl⟩

theorem test_witness_DmaBusConflict :
    busy.dma.active = true ∧ within 0 0xFF7F [0x0000, 0xFF7F] = true ∧ within 0xFFFF 0xFFFF [0xFFFF] = true
    ∧ State.reset.dma.active = false ∧ within 0xFF80 0xFFFE [0xFF80, 0xFFFE] = true := by decide

theorem test_witness_TransactionCompletes_reads :
    ¬State.reset.readFaults 0x0000 ∧ ¬busy.readFaults 0xFFFE ∧ busy.readFaults 0xFF7F ∧ strict.readFaults 0xE000
    ∧ strict.readFaults 0xFDFF := by decide

theorem test_witness_TransactionCompletes_prohibited :
    strict.readFaults 0xFEA0 ∧ strict.readFaults 0xFEFF ∧ ¬State.reset.readFaults 0xFEA0 := by decide

theorem test_witness_TransactionCompletes_dma :
    ¬State.reset.writeFaults 0xFF46 0xFD ∧ State.reset.writeFaults 0xFF46 0xFE := by decide

theorem test_witness_TransactionCompletes_cgb :
    cgb.writeFaults 0xFF55 0 ∧ ¬cgb.writeFaults 0xFF56 0 := by decide

theorem test_witness_TransactionCompletes_stack :
    (∃ t, push16 0x1234 (spAt busy 0xC000) = .stop t) ∧ ∃ t, pop16 (spAt busy 0xC000) = .stop t :=
  ⟨⟨_, rfl⟩, ⟨_, rfl⟩⟩

theorem test_witness_PlainStores :
    State.reset.params.videoBusBlocking = false ∧ blocked.params.videoBusBlocking = true
    ∧ within 0x8000 0x9FFF [0x8000, 0x9FFF] = true ∧ within 0xFE00 0xFE9F [0xFE00, 0xFE9F] = true
    ∧ within 0xC000 0xCFFF [0xC000, 0xCFFF] = true ∧ within 0xD000 0xDFFF [0xD000, 0xDFFF] = true
    ∧ within 0xFF80 0xFFFE [0xFF80, 0xFFFE] = true := by decide

theorem test_witness_EchoAndProhibited :
    within 0xE000 0xFDFF [0xE000, 0xFDFF] = true ∧ within 0xFEA0 0xFEFF [0xFEA0, 0xFEFF] = true
    ∧ State.reset.params.echoPolicy = .mirror ∧ strict.params.echoPolicy = .fault
    ∧ State.reset.params.prohibitedPolicy = .anyValue ∧ blocked.params.prohibitedPolicy = .openBus
    ∧ strict.params.prohibitedPolicy = .fault := by decide

theorem test_witness_IoRegisters :
    (0xFD#8).toNat < 0xFE ∧ 0xFE ≤ (0xFE#8).toNat ∧ cgb.params.cgbMode = true
    ∧ within 0xFF00 0xFF7F [0xFF00, 0xFF70, 0xFF7F] = true ∧ State.reset.params.cgbMode = false
    ∧ ¬cgbRegister 0xFF7F ∧ cgbRegister 0xFF4D ∧ cgbRegister 0xFF4F ∧ cgbRegister 0xFF51 ∧ cgbRegister 0xFF55 := by
  decide

theorem test_witness_BusWriteFrame :
    (∃ t, busWrite 0xC000 0x55 State.reset = .ok () t) ∧ ∃ t, busWrite 0xFF70 0x03 cgb = .ok () t :=
  ⟨⟨_, rfl⟩, ⟨_, rfl⟩⟩

theorem test_witness_PushThenPop :
    ¬State.reset.conflicts (State.reset.regs.sp - 1) ∧ ¬State.reset.conflicts (State.reset.regs.sp - 2)
    ∧ State.reset.plain (State.reset.regs.sp - 1) = true ∧ State.reset.plain (State.reset.regs.sp - 2) = true := by
  decide

theorem test_witness_NoMbcMapping :
    State.reset.cart.mbc = .noMbc ∧ State.reset.cart.ramBanks = 0 ∧ (withMbc .noMbc).cart.mbc = .noMbc
    ∧ 1 ≤ (withMbc .noMbc).cart.ramBanks ∧ (0x7FFF#16).toNat < 0x8000
    ∧ within 0xA000 0xBFFF [0xA000, 0xBFFF] = true := by decide

/-- The ends of the register windows that the four mappings split 0x0000-0xBFFF into. -/
theorem test_witness_windows :
    within 0x0000 0x1FFF [0x0000, 0x1FFF] = true ∧ within 0x2000 0x3FFF [0x2000, 0x3FFF] = true
    ∧ within 0x2000 0x2FFF [0x2000, 0x2FFF] = true ∧ within 0x3000 0x3FFF [0x3000, 0x3FFF] = true
    ∧ within 0x4000 0x5FFF [0x4000, 0x5FFF] = true ∧ within 0x6000 0x7FFF [0x6000, 0x7FFF] = true
    ∧ within 0x4000 0x7FFF [0x4000, 0x7FFF] = true ∧ within 0xA000 0xBFFF [0xA000, 0xBFFF] = true := by decide

theorem test_witness_Mbc1Mapping : ∀ r ∈ [false, true],
    (withMbc (.mbc1 { ramEnable := r, bank1 := 0, bank2 := 3, mode := true })).cart.mbc =
      .mbc1 { ramEnable := r, bank1 := 0, bank2 := 3, mode := true }
    ∧ (withMbc .noMbc).cart.ramBanks ≠ 0 ∧ Cart.unloaded.ramBanks = 0 := by decide

theorem test_witness_Mbc2Mapping :
    (0x0000#16).getLsbD 8 = false ∧ (0x0100#16).getLsbD 8 = true ∧ (0x3FFF#16).getLsbD 8 = true
    ∧ ∀ r ∈ [false, true], (withMbc (.mbc2 { ramEnable := r, romBank := 0 })).cart.mbc =
        .mbc2 { ramEnable := r, romBank := 0 } := by decide

/-- MBC3 with the seconds register selected and the latch armed. -/
def mbc3At (enable : Bool) : Mbc3 where
  ramTimerEnable := enable
  romBank := 0
  select := 0x08
  latchArmed := true
  live := .zero
  latched := .zero

theorem test_witness_Mbc3Mapping :
    (∀ r ∈ [false, true],
      (withMbc (.mbc3 (mbc3At r))).cart.mbc = .mbc3 (mbc3At r))
    ∧ (0x07#8).toNat ≤ 0x07 ∧ rtcRegOf 0x08 = some .s ∧ rtcRegOf 0x0C = some .dh ∧ 0x07 < (0x0D#8).toNat
    ∧ rtcRegOf 0x0D = none ∧ ({ Cart.unloaded with timer := true } : Cart).timer = true
    ∧ Cart.unloaded.timer = false := by decide

theorem test_witness_RtcRegistersAndTick :
    ¬(0x08 ≤ (0x07#8).toNat ∧ (0x07#8).toNat ≤ 0x0C) ∧ ¬(0x08 ≤ (0x0D#8).toNat ∧ (0x0D#8).toNat ≤ 0x0C)
    ∧ RtcReg.m ≠ RtcReg.s ∧ ({ Rtc.zero with halt := true } : Rtc).halt = true ∧ Rtc.zero.halt = false
    ∧ Rtc.zero.sec ≠ 59 ∧ ({ Rtc.zero with sec := 59, min := 59, hour := 23 } : Rtc).hour = 23
    ∧ ({ Rtc.zero with sec := 59, min := 59 } : Rtc).hour ≠ 23 ∧ ({ Rtc.zero with sec := 59 } : Rtc).min ≠ 59
    ∧ Cart.unloaded.timer = false ∧ ({ Cart.unloaded with timer := true } : Cart).timer = true := by decide

theorem test_witness_Mbc5Mapping : ∀ r ∈ [false, true],
    (withMbc (.mbc5 { ramEnable := r, romBankLo := 0xFF, romBankHi := 1, ramBank := 0, rumble := false })).cart.mbc =
      .mbc5 { ramEnable := r, romBankLo := 0xFF, romBankHi := 1, ramBank := 0, rumble := false }
    ∧ Cart.unloaded.rumble = false ∧ ({ Cart.unloaded with rumble := true } : Cart).rumble = true := by decide

/-- `LoadFromMemory`, `LoadStoreMoveHl` and the (HL) forms of `AddAndAdc`, `SubSbcAndCp`, `AndXorOr`, `BitOperations`: the
byte at the address can be read, and cannot. -/
theorem test_witness_reads :
    ¬State.reset.readFaults State.reset.regs.hl ∧ busy.readFaults busy.regs.hl
    ∧ (hlAt strict 0xFD 0xFF).readFaults (hlAt strict 0xFD 0xFF).regs.hl
    ∧ ¬busy.readFaults (BitVec.ofNat 16 (0xFF00 + (0x80#8).toNat)) := by decide

theorem test_witness_operand_reads :
    ¬State.reset.opdReadFaults .indHl ∧ ¬busy.opdReadFaults (.reg .b) ∧ busy.opdReadFaults .indHl := by decide

/-- `StoreToMemory`, `LoadStoreMoveHl`: the byte can be written, and cannot. -/
theorem test_witness_writes :
    ¬State.reset.writeFaults State.reset.regs.hl State.reset.regs.a ∧ busy.writeFaults busy.regs.hl busy.regs.a := by
  decide

/-- `IncAndDec`, `Rotates`, `ShiftsAndSwap`, `BitOperations`: an update completes, and one faults in its write alone. -/
theorem test_witness_updates :
    ¬State.reset.opdUpdateFaults .indHl (· + 1) ∧ ¬busy.opdUpdateFaults (.reg .a) (· - 1)
    ∧ (hlAt cgb 0xFF 0x4F).opdUpdateFaults .indHl (· + 1) := by decide

theorem test_witness_updates_stop :
    ∃ v u t, memRead 0xFF46 State.reset = .ok v u ∧ memWrite 0xFF46 (v ||| 1#8 <<< 0) u = .stop t :=
  ⟨_, _, _, rfl, rfl⟩

theorem test_witness_StoreSp :
    ¬State.reset.writePairFaults 0xC100 0xFE (0xC100 + 1) 0xFF ∧ State.reset.plain 0xC100 = true
    ∧ State.reset.plain (0xC100 + 1) = true := by decide

theorem test_witness_StoreSp_wraps : ¬State.reset.writePairFaults 0xFFFF 0xFE (0xFFFF + 1) 0xFF := by decide

theorem test_witness_StoreSp_faults :
    (∃ t, memWrite 0xC100 0xFE busy = .stop t)
    ∧ ∃ u t, memWrite 0xDFFF 0xFE strict = .ok () u ∧ memWrite 0xE000 0xFF u = .stop t :=
  ⟨⟨_, rfl⟩, ⟨_, _, rfl, rfl⟩⟩

/-- `PushStoresPair`, `CallsAndRestarts`, `InterruptDispatch`: the pushes complete, and fault. -/
theorem test_witness_pushes : ¬State.reset.pushFaults 0x1234 := by decide

theorem test_witness_pushes_fault : (spAt busy 0xFF81).pushFaults 0 := by decide

theorem test_witness_pushFaultEnds : ∃ t, push16 0x1234 (spAt strict 0xE001) = .stop t := ⟨_, rfl⟩

/-- `PopLoadsPair`, `Returns`: the pops complete, and fault. -/
theorem test_witness_pops :
    ¬(spAt State.reset 0xC000).popFaults ∧ ¬(spAt busy 0xFFFD).popFaults ∧ (spAt busy 0xFFFE).popFaults := by decide

theorem test_witness_popFaultEnds : ∃ t, pop16 (spAt busy 0xFFFE) = .stop t := ⟨_, rfl⟩

/-- `CallsAndRestarts`, `Returns`: a condition holds, and does not. -/
theorem test_witness_conditions :
    State.reset.regs.cond .z = true ∧ State.reset.regs.cond .nz = false ∧ State.reset.regs.cond .c = true
    ∧ State.reset.regs.cond .nc = false := by decide

theorem test_witness_AndXorOr : (AluOp.xor = .and ∧ (· ^^^ ·) = (· &&& · : Byte → Byte → Byte) ∧ false = true)
    ∨ (AluOp.xor = .xor ∧ (· ^^^ · : Byte → Byte → Byte) = (· ^^^ ·) ∧ false = false)
    ∨ (AluOp.xor = .or ∧ (· ^^^ ·) = (· ||| · : Byte → Byte → Byte) ∧ false = false) := .inr (.inl ⟨rfl, rfl, rfl⟩)

theorem test_witness_Rotates : (Instr.rra = .rra ∧ ShiftOp.rr = .rr ∧ (0x1F : Byte) = 0x1F)
    ∧ (ShiftOp.rl = .rlc ∨ ShiftOp.rl = .rrc ∨ ShiftOp.rl = .rl ∨ ShiftOp.rl = .rr)
    ∧ (ShiftOp.swap = .sla ∨ ShiftOp.swap = .sra ∨ ShiftOp.swap = .srl ∨ ShiftOp.swap = .swap) := by decide

theorem test_witness_PrefixRunsEntry :
    (0x05#8).toNat % 8 ≠ 6 ∧ (0xFF#8).toNat % 8 ≠ 6 ∧ (0x06#8).toNat % 8 = 6 ∧ (0xFE#8).toNat % 8 = 6 := by decide

theorem test_witness_PrefixRunsEntry_writable : ∀ v, ¬(hlAt State.reset 0xC0 0x00).writeFaults
    (hlAt State.reset 0xC0 0x00).regs.hl v := by decide

theorem test_witness_NopHaltDiEi :
    State.reset.ie &&& State.reset.iflag.zeroExtend 8 &&& 0x1F = 0 ∧ State.reset.ime = false
    ∧ (0x01#8) &&& State.reset.iflag.zeroExtend 8 &&& 0x1F ≠ 0 := by decide

theorem test_witness_StopEntersStoppedMode : State.reset.params.cgbMode = false ∧ cgb.params.cgbMode = true := by decide

theorem test_witness_IllegalOpcodes :
    (0xDD, Instr.illegalDD) ∈ illegalOps ∧ ∃ t, exec .illegalDD State.reset = .next t := ⟨by decide, _, rfl⟩

/-- An illegal opcode at pc, fetched as usual and by the HALT-bug fetch. -/
theorem test_witness_IllegalOpcodes_step : ∀ b ∈ [false, true],
    let s : State := { at200 zero [0xDD] with haltBug := b }
    s.mode ≠ .faulted ∧ s.takeEnv.mode = .running ∧ s.takeEnv.dispatchDue = false
    ∧ ¬s.takeEnv.conflicts s.takeEnv.regs.pc ∧ s.takeEnv.peek s.takeEnv.regs.pc = some 0xDD := by decide

/-- A state whose next step runs `LD BC,0x1234`. -/
def runs : State := at200 zero [0x01, 0x34, 0x12]

theorem test_witness_StepRunsDecodedInstruction :
    runs.mode ≠ .faulted ∧ runs.takeEnv.mode = .running ∧ runs.takeEnv.dispatchDue = false
    ∧ runs.takeEnv.haltBug = false ∧ (Instr.ldBcN16 0x1234).wf = true
    ∧ encode (.ldBcN16 0x1234) = [0x01, 0x34, 0x12] := by decide

theorem test_witness_holdsAt : runs.takeEnv.holdsAt runs.takeEnv.regs.pc (encode (.ldBcN16 0x1234)) :=
  ⟨by decide, by decide, by decide, by decide, by decide, by decide, trivial⟩

/-- A state with the HALT bug armed before `3E 14`. -/
def bugged : State := { at200 zero [0x3E, 0x14] with haltBug := true }

theorem test_witness_HaltBugFetch :
    bugged.mode ≠ .faulted ∧ bugged.takeEnv.mode = .running ∧ bugged.takeEnv.dispatchDue = false
    ∧ bugged.takeEnv.haltBug = true ∧ (Instr.ldAN8 0x3E).wf = true ∧ encode (.ldAN8 0x3E) = [0x3E, 0x3E] := by decide

theorem test_witness_HaltBugFetch_holds :
    bugged.takeEnv.holdsAt bugged.takeEnv.regs.pc [0x3E] ∧ bugged.takeEnv.holdsAt bugged.takeEnv.regs.pc [0x3E] :=
  ⟨⟨by decide, by decide, trivial⟩, ⟨by decide, by decide, trivial⟩⟩

/-- A two-byte instruction whose second byte stands in the echo range under the fault policy. -/
def cut : State := ({ strict with regs := { zero with pc := 0xDFFF } }).place 0xDFFF 0x3E

theorem test_witness_FaultsEndTheRun :
    ({ State.reset with mode := .faulted } : State).mode = .faulted ∧ State.reset.mode ≠ .faulted
    ∧ State.reset.fault = none ∧ busy.mode ≠ .faulted ∧ busy.takeEnv.mode = .running
    ∧ busy.takeEnv.dispatchDue = false ∧ busy.takeEnv.readFaults busy.takeEnv.regs.pc ∧ cut.takeEnv.haltBug = false
    ∧ encode (.ldAN8 0) = [0x3E] ++ [0x00] ∧ cut.takeEnv.readFaults (cut.takeEnv.regs.pc + 1) := by decide +kernel

theorem test_witness_FaultsEndTheRun_holds : cut.takeEnv.holdsAt cut.takeEnv.regs.pc [0x3E] :=
  ⟨by decide, by decide, trivial⟩

theorem test_witness_InterruptDispatch : ∀ m ∈ [Mode.running, .halted],
    let s : State := { State.reset with mode := m, ime := true, ie := 0x01 }
    s.mode ≠ .faulted ∧ (s.takeEnv.mode = .running ∨ s.takeEnv.mode = .halted) ∧ s.takeEnv.ime = true
    ∧ s.takeEnv.ie &&& s.takeEnv.iflag.zeroExtend 8 &&& 0x1F ≠ 0 ∧ ¬s.takeEnv.pushFaults s.takeEnv.regs.pc := by decide

/-- The first push faults, and the second one alone. -/
theorem test_witness_InterruptDispatch_faults :
    (∃ t, pushByte 0x01 (spAt busy 0xC000) = .stop t)
    ∧ ∃ u t, pushByte 0x01 (spAt busy 0xFF81) = .ok () u ∧ pushByte 0x00 u = .stop t := ⟨⟨_, rfl⟩, ⟨_, _, rfl, rfl⟩⟩

/-- The pending set after the first push: withdrawn where that push writes IE, and its lowest bit set (R615, R616). -/
theorem test_witness_InterruptDispatch_pending :
    (0x02#8) &&& (0x01#5).zeroExtend 8 &&& 0x1F = 0 ∧ (0x14#8).getLsbD 2 = true
    ∧ (∀ j < 2, (0x14#8).getLsbD j = false) ∧ (0x10#8).getLsbD 4 = true ∧ ∀ j < 4, (0x10#8).getLsbD j = false := by
  decide

theorem test_witness_IdleAndWake :
    let stopped : State := { State.reset with mode := .stopped }
    let halted : State := { State.reset with mode := .halted }
    let waking : State := { halted with ie := 0x01 }
    stopped.mode ≠ .faulted ∧ stopped.takeEnv.mode = .stopped ∧ halted.takeEnv.mode = .halted
    ∧ halted.takeEnv.ie &&& halted.takeEnv.iflag.zeroExtend 8 &&& 0x1F = 0
    ∧ waking.takeEnv.ie &&& waking.takeEnv.iflag.zeroExtend 8 &&& 0x1F ≠ 0 := by decide

theorem test_witness_EnvironmentMoves :
    ({ State.reset with mode := .stopped } : State).mode = .stopped ∧ State.reset.mode ≠ .stopped
    ∧ State.reset.schedule = [] ∧ ({ State.reset with schedule := [[.wake], []] } : State).schedule = [.wake] :: [[]] := by
  decide

theorem test_witness_DmaTick :
    State.reset.dma.active = false ∧ busy.dma.active = true ∧ busy.dma.delay = 0
    ∧ 0 < ({ busy with dma := { busy.dma with delay := 1 } } : State).dma.delay := by decide

theorem test_witness_DmaTick_reads : (∃ v u, busRead 0xC000 busy = .ok v u) ∧ ∃ u, busRead 0xE000 strict = .stop u :=
  ⟨⟨_, _, rfl⟩, ⟨_, rfl⟩⟩

/-- The source page 0xC0 of the reset state reads as its unlisted byte throughout. -/
theorem test_witness_DmaTransferCompletes :
    busy.dma.active = true ∧ busy.dma.count = 0 ∧ busy.params.dmaSourceStride = 0x100 ∧ busy.dmaReg.toNat < 0xFE
    ∧ ∀ k < 160, busy.peek (BitVec.ofNat 16 (busy.dmaReg.toNat * 0x100 + k)) = some ((fun _ => 0x00) k) := by decide +kernel

/-- `StepKeepsFlagNibble`, `StepKeepsStoresCanonical`, `StepKeepsRanges`, `StepOnlyAppends`: the invariants hold at reset,
and a step follows it, and a state whose fetch faults. -/
theorem test_witness_invariants :
    State.reset.fClean ∧ State.reset.storesWf ∧ State.reset.dmaWf ∧ State.reset.storesInRange ∧ State.reset.faultWf := by
  decide

theorem test_witness_steps : (∃ t, step State.reset = .next t) ∧ ∃ t, step busy = .next t := ⟨⟨_, rfl⟩, ⟨_, rfl⟩⟩

/-- `ControlStateWriters`, `RegisterAndFlagWriters`: an instruction that answers a next state. -/
theorem test_witness_writers : (∃ t, exec .reti State.reset = .next t) ∧ ∃ t, exec .popAf State.reset = .next t :=
  ⟨⟨_, rfl⟩, ⟨_, rfl⟩⟩

end Sys2Proof.Tests
end

section
/-! PROOFS. The bits that a register keeps of a byte, and what the others read as, in the words of the rules
(spec 20_memory.md R211, R213, R225, R241 to R261). -/

namespace Sys2Proof.Machine

theorem lowNibbleIsA_eq (v : Byte) : lowNibbleIsA v = decide (v.toNat % 16 = 0xA) := by
  unfold lowNibbleIsA
  rw [Bool.eq_iff_iff, beq_iff_eq, decide_eq_true_iff, ← BitVec.toNat_inj]
  rfl

/-- The low bits of a byte, as the rules' `v[k-1:0]`. -/
theorem extractLsb'_zero_eq (v : Byte) {k : Nat} (h : k ≤ 8) : v.extractLsb' 0 k = v.truncate k :=
  (BitVec.setWidth_eq_extractLsb' h).symm

theorem getLsbD_8_eq (a : Addr) : a.getLsbD 8 = decide (a.toNat / 256 % 2 = 1) := Nat.testBit_eq_decide_div_mod_eq

/-- A mask of the low `k` bits is a remainder. -/
theorem toNat_and_lowMask (v : Byte) {k : Nat} (h : k ≤ 8) :
    (v &&& BitVec.ofNat 8 (2 ^ k - 1)).toNat = v.toNat % 2 ^ k := by
  have hk : 2 ^ k ≤ 2 ^ 8 := Nat.pow_le_pow_right (by decide) h
  rw [BitVec.toNat_and, BitVec.toNat_ofNat, Nat.mod_eq_of_lt (by omega), Nat.and_two_pow_sub_one_eq_mod]

/-- The low bits stored, every other bit reading 0 (R256). -/
theorem zeroExtend_extractLsb'_zero (v : Byte) {k : Nat} (h : k ≤ 8) :
    (v.extractLsb' 0 k).zeroExtend 8 = v &&& BitVec.ofNat 8 (2 ^ k - 1) := by
  apply BitVec.eq_of_toNat_eq
  rw [toNat_and_lowMask v h, BitVec.zeroExtend, BitVec.toNat_setWidth_of_le h, BitVec.extractLsb'_toNat,
    Nat.shiftRight_zero]

/-- A nibble below any high nibble, read back (R248). -/
theorem lowNibble_append (d : BitVec 4) (v : Byte) : (d ++ v.extractLsb' 0 4 : Byte) &&& 0x0F = v &&& 0x0F := by
  apply BitVec.eq_of_toNat_eq
  refine (toNat_and_lowMask _ (k := 4) (by decide)).trans (.trans ?_ (toNat_and_lowMask v (k := 4) (by decide)).symm)
  rw [BitVec.toNat_append, ← Nat.shiftLeft_add_eq_or_of_lt (BitVec.isLt _), Nat.shiftLeft_eq,
    BitVec.extractLsb'_toNat, Nat.shiftRight_zero]
  omega

/-- `bank number 0` read as 1, on a bank register (R209, R242, R247, R252). -/
theorem zeroToOne_toNat {w : Nat} (x : BitVec w) : zeroToOne x.toNat = if x = 0 then 1 else x.toNat := by
  simp [zeroToOne, ← BitVec.toNat_inj]

/-- Counting a field up by one wraps at its width (R641). -/
theorem ofNat_toNat_succ {w : Nat} (x : BitVec w) : BitVec.ofNat w (x.toNat + 1) = x + 1 := by
  rw [BitVec.ofNat_add, BitVec.ofNat_toNat, BitVec.setWidth_eq]
  rfl

/-- The three bits of IF that are not stored read as ones (R211). -/
theorem iflag_readback (f : BitVec 5) : 0b111#3 ++ f = 0xE0 ||| f.zeroExtend 8 := by
  revert f; decide

/-- The five bits of SVBK that are not stored read as ones (R213). -/
theorem svbk_readback (b : BitVec 3) : 0b11111#5 ++ b = 0xF8 ||| b.zeroExtend 8 := by
  revert b; decide

end Sys2Proof.Machine
end

section
/-! PROOFS. What a bus access does at each target of the address decoder (spec 20_memory.md R200 to R216). -/

namespace Sys2Proof.Machine

variable {s : State} {a : Addr} {off : Nat} (v : Byte)

/-! ## Video RAM and OAM (R206) -/

/-- A blocked video write lands or does not, as its draw says (R206). -/
theorem videoStore_cases (m : Memory) (off : Nat) (v : Byte) (s : State) :
    videoStore m off v s = m.write off v ∨ videoStore m off v s = m := by
  unfold videoStore
  split
  · exact .inr rfl
  · exact .inl rfl

theorem videoStore_open (m : Memory) (hb : s.params.videoBusBlocking = false) :
    videoStore m off v s = m.write off v := by
  simp [videoStore, hb]

theorem videoDrawn_open (hb : s.params.videoBusBlocking = false) : s.videoDrawn = s := by
  simp [State.videoDrawn, hb]

theorem videoDrawn_blocked (hb : s.params.videoBusBlocking = true) : s.videoDrawn = { s with draws := s.draws + 1 } := by
  simp [State.videoDrawn, State.drawn, hb]

theorem videoRead_open (hb : s.params.videoBusBlocking = false) : videoRead v s = .ok v s := by
  simp [videoRead, hb]

theorem videoRead_blocked (hb : s.params.videoBusBlocking = true) : videoRead v s = draw .video s := by
  simp [videoRead, hb]

theorem access_vram_open (hl : s.locate a = .vram off) (hb : s.params.videoBusBlocking = false) :
    busRead a s = .ok (s.vram.read off) s ∧ busWrite a v s = .ok () { s with vram := s.vram.write off v } := by
  simp only [busRead, busWrite, hl]
  rw [videoStore_open v _ hb]
  exact ⟨videoRead_open _ hb, congrArg (Res.ok ()) (videoDrawn_open hb)⟩

theorem access_oam_open (hl : s.locate a = .oam off) (hb : s.params.videoBusBlocking = false) :
    busRead a s = .ok (s.oam.read off) s ∧ busWrite a v s = .ok () { s with oam := s.oam.write off v } := by
  simp only [busRead, busWrite, hl]
  rw [videoStore_open v _ hb]
  exact ⟨videoRead_open _ hb, congrArg (Res.ok ()) (videoDrawn_open hb)⟩

theorem access_vram_blocked (hl : s.locate a = .vram off) (hb : s.params.videoBusBlocking = true) :
    busRead a s = draw .video s
    ∧ (busWrite a v s = .ok () { s with vram := s.vram.write off v, draws := s.draws + 1 }
      ∨ busWrite a v s = .ok () { s with draws := s.draws + 1 }) := by
  simp only [busRead, busWrite, hl]
  refine ⟨videoRead_blocked _ hb, ?_⟩
  rcases videoStore_cases s.vram off v s with e | e <;> rw [e]
  · exact .inl (congrArg (Res.ok ()) (videoDrawn_blocked hb))
  · exact .inr (congrArg (Res.ok ()) (videoDrawn_blocked hb))

theorem access_oam_blocked (hl : s.locate a = .oam off) (hb : s.params.videoBusBlocking = true) :
    busRead a s = draw .video s
    ∧ (busWrite a v s = .ok () { s with oam := s.oam.write off v, draws := s.draws + 1 }
      ∨ busWrite a v s = .ok () { s with draws := s.draws + 1 }) := by
  simp only [busRead, busWrite, hl]
  refine ⟨videoRead_blocked _ hb, ?_⟩
  rcases videoStore_cases s.oam off v s with e | e <;> rw [e]
  · exact .inl (congrArg (Res.ok ()) (videoDrawn_blocked hb))
  · exact .inr (congrArg (Res.ok ()) (videoDrawn_blocked hb))

/-! ## Work RAM, its echo, and high RAM (R207, R209, R210) -/

theorem access_wram (hl : s.locate a = .wram off) :
    busRead a s = .ok (s.wram.read off) s ∧ busWrite a v s = .ok () { s with wram := s.wram.write off v } := by
  simp only [busRead, busWrite, hl, and_self]

theorem access_hram (hl : s.locate a = .hram off) :
    busRead a s = .ok (s.hram.read off) s ∧ busWrite a v s = .ok () { s with hram := s.hram.write off v } := by
  simp only [busRead, busWrite, hl, and_self]

/-- The bank that SVBK selects in CGB mode, 0 read as 1; bank 1 otherwise (R209). -/
theorem wramBank_eq (s : State) :
    s.wramBank = if s.params.cgbMode = true ∧ s.svbk ≠ 0 then s.svbk.toNat else 1 := by
  unfold State.wramBank
  cases s.params.cgbMode
  · rfl
  · rw [zeroToOne_toNat]
    simp only [true_and, ne_eq, ite_not, if_true]

theorem wramOffset_fixed (s : State) (h : off < 0x1000) : s.wramOffset off = off := if_pos h

theorem wramOffset_banked (s : State) (h : 0x1000 ≤ off) :
    s.wramOffset off = s.wramBank * 0x1000 + (off - 0x1000) := if_neg (by omega)

/-- Under `mirror` an echo address is decoded as the address 0x2000 lower (R207). -/
theorem locate_echo_mirror (h : 0xE000 ≤ a.toNat) (h' : a.toNat ≤ 0xFDFF) (hp : s.params.echoPolicy = .mirror) :
    ∃ off, s.locate a = .wram off ∧ s.locate (a - 0x2000) = .wram off := by
  have e : (a - 0x2000).toNat = a.toNat - 0x2000 := BitVec.toNat_sub_of_le (by bv_omega)
  refine ⟨s.wramOffset (a.toNat - 0xE000), locate_of_echo h (by omega) hp, ?_⟩
  rw [locate_of_wram (by omega) (by omega), e, Nat.sub_sub]

theorem access_echoFault (hl : s.locate a = .echoFault) :
    busRead a s = .stop (s.raised (.echoAccess a)) ∧ busWrite a v s = .stop (s.raised (.echoAccess a)) := by
  simp only [busRead, busWrite, hl, raise, and_self]

/-! ## The prohibited range (R208) -/

section Prohibited

variable (hl : s.locate a = .prohibited)
include hl

theorem access_prohibited_anyValue (hp : s.params.prohibitedPolicy = .anyValue) :
    busRead a s = draw .prohibited (s.invalid .prohibitedRange a)
    ∧ busWrite a v s = .ok () (s.invalid .prohibitedRange a) := by
  simp only [busRead, busWrite, hl, prohibitedRead, prohibitedWrite, hp, and_self]

theorem access_prohibited_openBus (hp : s.params.prohibitedPolicy = .openBus) :
    busRead a s = .ok s.params.openBusValue (s.invalid .prohibitedRange a)
    ∧ busWrite a v s = .ok () (s.invalid .prohibitedRange a) := by
  simp only [busRead, busWrite, hl, prohibitedRead, prohibitedWrite, hp, and_self]

theorem access_prohibited_fault (hp : s.params.prohibitedPolicy = .fault) :
    busRead a s = .stop (s.raised (.prohibitedAccess a)) ∧ busWrite a v s = .stop (s.raised (.prohibitedAccess a)) := by
  simp only [busRead, busWrite, hl, prohibitedRead, prohibitedWrite, hp, raise, and_self]

end Prohibited

/-! ## The I/O registers (R211 to R215) -/

theorem locate_ie (s : State) : s.locate 0xFFFF = .ie := rfl

theorem locate_iflag (s : State) : s.locate 0xFF0F = .iflag := rfl

theorem locate_svbk (h : s.params.cgbMode = true) : s.locate 0xFF70 = .svbk := if_pos ⟨rfl, h⟩

theorem access_ie (hl : s.locate a = .ie) :
    busRead a s = .ok s.ie s ∧ busWrite a v s = .ok () { s with ie := v } := by
  simp only [busRead, busWrite, hl, and_self]

theorem access_iflag (hl : s.locate a = .iflag) :
    busRead a s = .ok (0xE0 ||| s.iflag.zeroExtend 8) s ∧ busWrite a v s = .ok () { s with iflag := v.truncate 5 } := by
  simp only [busRead, busWrite, hl, iflag_readback, extractLsb'_zero_eq v (show 5 ≤ 8 by decide), and_self]

theorem access_svbk (hl : s.locate a = .svbk) :
    busRead a s = .ok (0xF8 ||| s.svbk.zeroExtend 8) s ∧ busWrite a v s = .ok () { s with svbk := v.truncate 3 } := by
  simp only [busRead, busWrite, hl, svbk_readback, extractLsb'_zero_eq v (show 3 ≤ 8 by decide), and_self]

theorem access_dma (hl : s.locate a = .dma) :
    busRead a s = .ok s.dmaReg s ∧ busWrite a v s = startDma v { s with dmaReg := v } := by
  simp only [busRead, busWrite, hl, and_self]

/-- A source page below 0xFE arms the sequencer (R651). -/
theorem startDma_arms {v : Byte} (s : State) (h : v.toNat < 0xFE) :
    startDma v s = .ok () { s with dma := { active := true, delay := s.params.dmaStartDelay, count := 0 } } :=
  if_neg (Nat.not_le.2 h)

/-- A source page 0xFE or 0xFF has no meaning in the spec (R653). -/
theorem startDma_unmodelled {v : Byte} (s : State) (h : 0xFE ≤ v.toNat) :
    startDma v s = .stop (s.raised (.unmodelledDma 0xFF46 v)) :=
  if_pos h

theorem busRead_io (hl : s.locate a = .io) : busRead a s = draw (.io a) s := by
  simp only [busRead, hl]

theorem busWrite_io (hl : s.locate a = .io) (h : ¬(s.params.cgbMode = true ∧ cgbRegister a)) :
    busWrite a v s = .ok () { s with history := s.history ++ [.ioWrite a v] } := by
  simp only [busWrite, hl, ioWrite, Bool.and_eq_true, cgbUnmodelled_iff, if_neg h]
  rfl

theorem busWrite_io_unmodelled (hl : s.locate a = .io) (hc : s.params.cgbMode = true) (hr : cgbRegister a) :
    busWrite a v s = .stop (s.raised (.unmodelledWrite a)) := by
  simp only [busWrite, hl, ioWrite, Bool.and_eq_true, cgbUnmodelled_iff, if_pos (And.intro hc hr), raise]

end Sys2Proof.Machine
end

section
/-! PROOFS. The obligations on the bus: the plain stores, the echo and prohibited ranges, and the I/O registers. -/

namespace Sys2Proof.Machine

/-- Settles O11: each range is one target of the address decoder, and each target has its access lemma; with
`VideoBusBlocking` a write's draw chooses between the two outcomes. -/
theorem plainStores : Obligations.PlainStores := by
  intro s a v
  dsimp only
  refine ⟨fun h h' hb => access_vram_open v (locate_of_vram h (by omega)) hb,
    fun h h' hb => access_oam_open v (locate_of_oam h (by omega)) hb,
    fun h h' hb => access_vram_blocked v (locate_of_vram h (by omega)) hb,
    fun h h' hb => access_oam_blocked v (locate_of_oam h (by omega)) hb, fun h h' => ?_, fun h h' => ?_, fun h h' => ?_⟩
  · have hl := locate_of_wram (s := s) h (by omega)
    rw [wramOffset_fixed s (by omega)] at hl
    exact access_wram v hl
  · have hl := locate_of_wram (s := s) (a := a) (by omega) (by omega)
    rw [wramOffset_banked s (by omega), wramBank_eq, Nat.sub_sub] at hl
    exact access_wram v hl
  · have hc : ¬s.conflicts a := fun hc => hc.2 ⟨h, h'⟩
    rw [memRead_of_not_conflicts hc, memWrite_of_not_conflicts hc]
    exact access_hram v (locate_of_hram h (by omega))

/-- Settles O12: a mirrored echo address and the address 0x2000 lower have one target, and the policies of the two ranges
each have their access lemma. -/
theorem echoAndProhibited : Obligations.EchoAndProhibited := by
  intro s a v
  dsimp only
  refine ⟨fun h h' => ⟨fun hp => ?_, fun hp => access_echoFault v ((locate_echoFault_iff s a).2 ⟨hp, h, h'⟩)⟩,
    fun h h' => ?_⟩
  · obtain ⟨off, hl, hl'⟩ := locate_echo_mirror h h' hp
    obtain ⟨hr, hw⟩ := access_wram v hl
    obtain ⟨hr', hw'⟩ := access_wram v hl'
    exact ⟨hr.trans hr'.symm, hw.trans hw'.symm⟩
  · have hl := (locate_prohibited_iff s a).2 ⟨h, h'⟩
    exact ⟨access_prohibited_anyValue v hl, access_prohibited_openBus v hl, access_prohibited_fault v hl⟩

/-- Settles O13: the four registers of the core each at their own address, then every other I/O address. -/
theorem ioRegisters : Obligations.IoRegisters := by
  refine ⟨fun s v => ?_, fun s a v h h' hi hd hv => ?_⟩
  · have hdma : s.locate 0xFF46 = .dma := (locate_dma_iff s _).2 rfl
    obtain ⟨ieRead, ieWrite⟩ := access_ie v (locate_ie s)
    obtain ⟨ifRead, ifWrite⟩ := access_iflag v (locate_iflag s)
    obtain ⟨dmaRead, dmaWrite⟩ := access_dma v hdma
    exact ⟨ieRead, ieWrite, ifRead, ifWrite, dmaRead, fun hp => dmaWrite.trans (startDma_arms _ hp),
      fun hp => dmaWrite.trans (startDma_unmodelled _ hp), fun hc => access_svbk v (locate_svbk hc)⟩
  · have hl : s.locate a = .io := locate_of_io h (by omega) (fun e => hi (BitVec.eq_of_toNat_eq e))
      (fun e => hd (BitVec.eq_of_toNat_eq e)) fun e => hv ⟨BitVec.eq_of_toNat_eq e.1, e.2⟩
    exact ⟨busRead_io hl, busWrite_io v hl, busWrite_io_unmodelled v hl⟩

end Sys2Proof.Machine
end

section
/-! PROOFS. The cartridge's register writes, ROM windows and RAM window as the rules write them (spec 20_memory.md R225,
R233 to R263), for every controller. -/

namespace Sys2Proof.Machine

variable {s : State} {a : Addr} (v : Byte)

/-! ## ROM windows (R225) -/

/-- Bank 0 in the fixed window is the image's first bank, whatever the bank count. -/
theorem busRead_fixedBank0 {m : Mbc} (hm : s.cart.mbc = m) (hn : m ≠ .noMbc) (hb : m.fixedBank = 0)
    (h : a.toNat ≤ 0x3FFF) : busRead a s = .ok (s.rom.read a.toNat) s := by
  rw [busRead_rom (by omega), romOffset_fixed hm hn (by omega), hb, Nat.zero_mod, Nat.zero_mul, Nat.zero_add]

theorem busRead_switchBank {m : Mbc} (hm : s.cart.mbc = m) (hn : m ≠ .noMbc) (h : 0x4000 ≤ a.toNat)
    (h' : a.toNat ≤ 0x7FFF) :
    busRead a s = .ok (s.rom.read ((m.switchBank % s.cart.romBanks) * 0x4000 + (a.toNat - 0x4000))) s := by
  rw [busRead_rom (by omega), romOffset_switch hm hn (by omega)]

/-! ## The RAM window (R205), by what it is mapped to -/

section RamWindow

variable (h : 0xA000 ≤ a.toNat) (h' : a.toNat ≤ 0xBFFF)
include h h'

theorem ramWindow_openBus {k : InvalidKind} (ht : s.cart.ramTarget (a.toNat - 0xA000) = .openBus k) :
    busRead a s = .ok s.params.openBusValue (s.invalid k a) ∧ busWrite a v s = .ok () (s.invalid k a) := by
  rw [busRead_ext h (by omega), busWrite_ext v h (by omega), ht]
  exact ⟨rfl, rfl⟩

theorem ramWindow_ram {off : Nat} (ht : s.cart.ramTarget (a.toNat - 0xA000) = .ram off) :
    busRead a s = .ok (s.cartRam.read off) s
    ∧ busWrite a v s = .ok () { s with cartRam := s.cartRam.write off v } := by
  rw [busRead_ext h (by omega), busWrite_ext v h (by omega), ht]
  exact ⟨rfl, rfl⟩

theorem ramWindow_unselected (ht : s.cart.ramTarget (a.toNat - 0xA000) = .unselected) :
    busRead a s = draw .mbc3sel (s.invalid .rtcSelectInvalid a)
    ∧ busWrite a v s = .ok () (s.invalid .rtcSelectInvalid a) := by
  rw [busRead_ext h (by omega), busWrite_ext v h (by omega), ht]
  exact ⟨rfl, rfl⟩

theorem ramWindow_rtc {r : RtcReg} (ht : s.cart.ramTarget (a.toNat - 0xA000) = .rtc r) :
    busRead a s = .ok (s.cart.rtcRead r) s ∧ busWrite a v s = .ok () { s with cart := s.cart.rtcWrite r v } := by
  rw [busRead_ext h (by omega), busWrite_ext v h (by omega), ht]
  exact ⟨rfl, rfl⟩

/-- A nibble is stored whole, and read below a drawn high nibble (R248). -/
theorem ramWindow_nibble {off : Nat} (ht : s.cart.ramTarget (a.toNat - 0xA000) = .nibble off) :
    busWrite a v s = .ok () { s with nram := s.nram.write off (v &&& 0x0F) }
    ∧ ∃ b : Byte, busRead a s = .ok b { s with draws := s.draws + 1 } ∧ b &&& 0x0F = s.nram.read off &&& 0x0F := by
  rw [busRead_ext h (by omega), busWrite_ext v h (by omega), ht]
  exact ⟨rfl, _, rfl, lowNibble_append _ _⟩

/-- A window mapped to a RAM bank, on a cartridge that has none (R225, R234). -/
theorem ramWindow_absent {bank : Nat}
    (ht : s.cart.ramTarget (a.toNat - 0xA000) = s.cart.ramByte bank (a.toNat - 0xA000)) (h0 : s.cart.ramBanks = 0) :
    busRead a s = .ok s.params.openBusValue (s.invalid .ramAbsent a)
    ∧ busWrite a v s = .ok () (s.invalid .ramAbsent a) :=
  ramWindow_openBus v h h' (ht.trans (if_pos h0))

/-- A window mapped to a RAM bank, whose number is reduced modulo the bank count (R225). -/
theorem ramWindow_bank {bank : Nat}
    (ht : s.cart.ramTarget (a.toNat - 0xA000) = s.cart.ramByte bank (a.toNat - 0xA000)) (h0 : s.cart.ramBanks ≠ 0) :
    busRead a s = .ok (s.cartRam.read ((bank % s.cart.ramBanks) * 0x2000 + (a.toNat - 0xA000))) s
    ∧ busWrite a v s = .ok ()
        { s with cartRam := s.cartRam.write ((bank % s.cart.ramBanks) * 0x2000 + (a.toNat - 0xA000)) v } :=
  ramWindow_ram v h h' (ht.trans (if_neg h0))

end RamWindow

/-! ## Register writes (R233) -/

/-- Putting back the register file that is there changes nothing. -/
theorem State.with_mbc_self {m : Mbc} (hm : s.cart.mbc = m) : { s with cart := { s.cart with mbc := m } } = s := by
  subst hm; rfl

/-- NoMBC has no register (R234). -/
theorem busWrite_noMbc (hm : s.cart.mbc = .noMbc) (h : a.toNat < 0x8000) : busWrite a v s = .ok () s := by
  rw [busWrite_rom v h]
  simp only [State.writeMbc, Cart.writeReg, Cart.rumbleEvents, hm, List.append_nil]

theorem busWrite_mbc2 {r : Mbc2} (hm : s.cart.mbc = .mbc2 r) (h : a.toNat < 0x8000) :
    busWrite a v s = .ok () { s with cart := { s.cart with mbc := .mbc2 (r.write a.toNat v) } } := by
  rw [busWrite_rom v h]
  simp only [State.writeMbc, Cart.writeReg, Cart.rumbleEvents, hm, List.append_nil]

theorem busWrite_mbc3 {r : Mbc3} (hm : s.cart.mbc = .mbc3 r) (h : a.toNat < 0x8000) :
    busWrite a v s = .ok () { s with cart := { s.cart with mbc := .mbc3 (r.write s.cart.timer a.toNat v) } } := by
  rw [busWrite_rom v h]
  simp only [State.writeMbc, Cart.writeReg, Cart.rumbleEvents, hm, List.append_nil]

theorem busWrite_mbc5 {r : Mbc5} (hm : s.cart.mbc = .mbc5 r) (h : a.toNat < 0x8000) :
    busWrite a v s = .ok () { s with
      cart := { s.cart with mbc := .mbc5 (r.write s.cart.rumble a.toNat v) }
      history := s.history ++ s.cart.rumbleEvents a.toNat v } := by
  rw [busWrite_rom v h]
  simp only [State.writeMbc, Cart.writeReg, hm]

end Sys2Proof.Machine
end

section
/-! PROOFS. The register writes of MBC2, MBC3 and MBC5, range by range, and what each maps into the RAM window
(spec 20_memory.md R246 to R263). -/

namespace Sys2Proof.Machine

variable {n off : Nat} {c : Cart} (v : Byte)

/-! ## NoMBC (R234) -/

theorem romOffset_noMbc (hm : c.mbc = .noMbc) : c.romOffset n = n := by
  unfold Cart.romOffset; rw [hm]

theorem ramTarget_noMbc (hm : c.mbc = .noMbc) : c.ramTarget off = c.ramByte 0 off := by
  unfold Cart.ramTarget; rw [hm]

/-! ## MBC2 (R246, R248) -/

namespace Mbc2

variable (r : Mbc2)

theorem write_ramEnable (h : n < 0x4000) (hb : n / 256 % 2 = 0) :
    r.write n v = { r with ramEnable := decide (v.toNat % 16 = 0xA) } := by
  rw [Mbc2.write, if_pos h, if_pos hb, lowNibbleIsA_eq]

theorem write_romBank (h : n < 0x4000) (hb : n / 256 % 2 = 1) : r.write n v = { r with romBank := v.truncate 4 } := by
  rw [Mbc2.write, if_pos h, if_neg (by omega), extractLsb'_zero_eq v (by decide)]

theorem write_switchWindow (h : 0x4000 ≤ n) : r.write n v = r := if_neg (by omega)

end Mbc2

theorem ramTarget_mbc2 {r : Mbc2} (hm : c.mbc = .mbc2 r) :
    c.ramTarget off = if r.ramEnable then .nibble (off % 512) else .openBus .ramDisabled := by
  unfold Cart.ramTarget; rw [hm]

/-! ## MBC3 (R251, R253, R254, R257) -/

namespace Mbc3

variable (r : Mbc3) (timer : Bool)

theorem write_ramTimerEnable (h : n < 0x2000) :
    r.write timer n v = { r with ramTimerEnable := decide (v.toNat % 16 = 0xA) } := by
  rw [Mbc3.write, if_pos h, lowNibbleIsA_eq]

theorem write_romBank (h : 0x2000 ≤ n) (h' : n < 0x4000) :
    r.write timer n v = { r with romBank := v.truncate 7 } := by
  rw [Mbc3.write, if_neg (by omega), if_pos h', extractLsb'_zero_eq v (by decide)]

theorem write_select (h : 0x4000 ≤ n) (h' : n < 0x6000) : r.write timer n v = { r with select := v } := by
  rw [Mbc3.write, if_neg (by omega), if_neg (by omega), if_pos h']

theorem write_latch (h : 0x6000 ≤ n) : r.write timer n v = if timer then r.latch v else r := by
  rw [Mbc3.write, if_neg (by omega), if_neg (by omega), if_neg (by omega)]

theorem latch_eq : r.latch v = { r with
    latched := if r.latchArmed = true ∧ v = 0x01 then r.live else r.latched, latchArmed := decide (v = 0x00) } := by
  simp only [Mbc3.latch, Bool.and_eq_true, beq_iff_eq]
  rfl

end Mbc3

section Mbc3Window

variable {r : Mbc3} (hm : c.mbc = .mbc3 r)
include hm

theorem ramTarget_mbc3_disabled (he : r.ramTimerEnable = false) :
    c.ramTarget off = .openBus (if r.select.toNat ≤ 0x07 then .ramDisabled else .rtcDisabled) := by
  simp only [Cart.ramTarget, hm, he, Bool.false_eq_true, if_false]

theorem ramTarget_mbc3_bank (he : r.ramTimerEnable = true) (hs : r.select.toNat ≤ 0x07) :
    c.ramTarget off = c.ramByte r.select.toNat off := by
  simp only [Cart.ramTarget, hm, he, if_true, if_pos hs]

theorem ramTarget_mbc3_rtc {reg : RtcReg} (he : r.ramTimerEnable = true) (hs : 0x07 < r.select.toNat)
    (hr : rtcRegOf r.select = some reg) (ht : c.timer = true) : c.ramTarget off = .rtc reg := by
  simp only [Cart.ramTarget, hm, he, if_true, if_neg (Nat.not_le.2 hs), hr, ht]

theorem ramTarget_mbc3_unselected (he : r.ramTimerEnable = true) (hs : 0x07 < r.select.toNat)
    (hr : c.timer = false ∨ rtcRegOf r.select = none) : c.ramTarget off = .unselected := by
  simp only [Cart.ramTarget, hm, he, if_true, if_neg (Nat.not_le.2 hs)]
  rcases hr with ht | hr
  · split
    · rw [ht]; rfl
    · rfl
  · rw [hr]

theorem rtcRead_mbc3 (reg : RtcReg) : c.rtcRead reg = r.latched.get reg := by
  unfold Cart.rtcRead; rw [hm]

theorem rtcWrite_mbc3 (reg : RtcReg) :
    c.rtcWrite reg v = { c with mbc := .mbc3 { r with live := r.live.set reg v } } := by
  unfold Cart.rtcWrite; rw [hm]

end Mbc3Window

/-- Only the `select` values 0x08 to 0x0C name a clock register (R255). -/
theorem rtcRegOf_range {w : Byte} {reg : RtcReg} (h : rtcRegOf w = some reg) : 0x08 ≤ w.toNat ∧ w.toNat ≤ 0x0C := by
  unfold rtcRegOf at h
  split at h
  case h_6 => cases h
  all_goals omega

/-! ## MBC5 (R261, R263) -/

namespace Mbc5

variable (r : Mbc5) (rumble : Bool)

theorem write_ramEnable (h : n < 0x2000) : r.write rumble n v = { r with ramEnable := decide (v = 0x0A) } := by
  rw [Mbc5.write, if_pos h]
  rfl

theorem write_romBankLo (h : 0x2000 ≤ n) (h' : n < 0x3000) : r.write rumble n v = { r with romBankLo := v } := by
  rw [Mbc5.write, if_neg (by omega), if_pos h']

theorem write_romBankHi (h : 0x3000 ≤ n) (h' : n < 0x4000) :
    r.write rumble n v = { r with romBankHi := v.truncate 1 } := by
  rw [Mbc5.write, if_neg (by omega), if_neg (by omega), if_pos h', extractLsb'_zero_eq v (by decide)]

theorem write_ramBank {rumble : Bool} (hr : rumble = false) (h : 0x4000 ≤ n) (h' : n < 0x6000) :
    r.write rumble n v = { r with ramBank := v.truncate 4 } := by
  rw [Mbc5.write, if_neg (by omega), if_neg (by omega), if_neg (by omega), if_pos h', hr,
    if_neg Bool.false_ne_true, extractLsb'_zero_eq v (by decide)]

/-- On a rumble cartridge the register's top bit drives the motor and three bits name the bank (R263). -/
theorem write_ramBank_rumble {rumble : Bool} (hr : rumble = true) (h : 0x4000 ≤ n) (h' : n < 0x6000) :
    r.write rumble n v = { r with rumble := v.getLsbD 3, ramBank := BitVec.ofNat 4 (v.toNat % 8) } := by
  have e : (v.extractLsb' 0 3).zeroExtend 4 = BitVec.ofNat 4 (v.toNat % 8) := by
    apply BitVec.eq_of_toNat_eq
    rw [BitVec.zeroExtend, BitVec.toNat_setWidth, BitVec.toNat_ofNat, BitVec.extractLsb'_toNat, Nat.shiftRight_zero]
  rw [Mbc5.write, if_neg (by omega), if_neg (by omega), if_neg (by omega), if_pos h', if_pos hr, e]

theorem write_above (h : 0x6000 ≤ n) : r.write rumble n v = r := by
  rw [Mbc5.write, if_neg (by omega), if_neg (by omega), if_neg (by omega), if_neg (by omega)]

end Mbc5

/-- Only a write to 0x4000-0x5FFF of a rumble cartridge can record a `Rumble` event (R263). -/
theorem rumbleEvents_none (h : ¬(c.rumble = true ∧ 0x4000 ≤ n ∧ n < 0x6000)) : c.rumbleEvents n v = [] := by
  unfold Cart.rumbleEvents
  split
  · refine if_neg fun hc => ?_
    simp only [Bool.and_eq_true, decide_eq_true_iff] at hc
    obtain ⟨⟨⟨hr, hlo⟩, hhi⟩, -⟩ := hc
    exact h ⟨hr, hlo, hhi⟩
  · rfl

theorem rumbleEvents_mbc5 {r : Mbc5} (hm : c.mbc = .mbc5 r) (hr : c.rumble = true) (h : 0x4000 ≤ n) (h' : n < 0x6000) :
    c.rumbleEvents n v = if v.getLsbD 3 = r.rumble then [] else [.rumble (v.getLsbD 3)] := by
  simp only [Cart.rumbleEvents, hm, hr, h, h', decide_true, Bool.true_and, bne_iff_ne, ne_eq, ite_not,
    eq_comm (a := r.rumble)]

theorem ramTarget_mbc5 {r : Mbc5} (hm : c.mbc = .mbc5 r) :
    c.ramTarget off = if r.ramEnable then c.ramByte r.ramBank.toNat off else .openBus .ramDisabled := by
  unfold Cart.ramTarget; rw [hm]

end Sys2Proof.Machine
end

section
/-! PROOFS. The obligations on the cartridge: NoMBC, MBC2, MBC3 and MBC5. -/

namespace Sys2Proof.Machine

/-- Settles O16: the ROM windows pass the address through, and the RAM window is bank 0 wherever there is a bank. -/
theorem noMbcMapping : Obligations.NoMbcMapping := by
  intro s a v hm
  have ht := ramTarget_noMbc (off := a.toNat - 0xA000) hm
  refine ⟨fun h => ⟨by rw [busRead_rom h, romOffset_noMbc hm], busWrite_noMbc v hm h⟩, fun h h' hb => ?_,
    fun h h' hb => ramWindow_absent v h h' ht hb⟩
  have hram := ramWindow_bank v h h' ht (by omega)
  rwa [Nat.zero_mod, Nat.zero_mul, Nat.zero_add] at hram

/-- Settles O18: address bit 8 selects the register written, and the RAM window is nibble RAM, mirrored every 512
bytes. -/
theorem mbc2Mapping : Obligations.Mbc2Mapping := by
  intro s r a v hm
  dsimp only
  refine ⟨fun h hb => ?_, fun h hb => ?_, fun h h' => ?_, busRead_fixedBank0 hm nofun rfl, fun h h' => ?_,
    fun h h' => ⟨fun he => ?_, fun he => ?_⟩⟩
  · rw [getLsbD_8_eq, decide_eq_false_iff_not] at hb
    rw [busWrite_mbc2 v hm (by omega), Mbc2.write_ramEnable v r (by omega) (by omega)]
  · rw [getLsbD_8_eq, decide_eq_true_iff] at hb
    rw [busWrite_mbc2 v hm (by omega), Mbc2.write_romBank v r (by omega) hb]
  · rw [busWrite_mbc2 v hm (by omega), Mbc2.write_switchWindow v r h, State.with_mbc_self hm]
  · rw [busRead_switchBank hm nofun h h', Mbc.switchBank, zeroToOne_toNat]
  · exact ramWindow_openBus v h h' (by rw [ramTarget_mbc2 hm, he]; rfl)
  · have mirror : (a.toNat - 0xA000) % 512 = a.toNat % 512 := by omega
    exact ramWindow_nibble v h h' (by rw [ramTarget_mbc2 hm, he, mirror]; rfl)

/-- Settles O19: a register write by its range, the latch on a timer cartridge, and the RAM window by what `select`
names. -/
theorem mbc3Mapping : Obligations.Mbc3Mapping := by
  intro s r a v hm
  dsimp only
  refine ⟨fun h => ?_, fun h h' => ?_, fun h h' => ?_, fun h h' => ?_, busRead_fixedBank0 hm nofun rfl, fun h h' => ?_,
    fun h h' => ⟨fun he => ?_, fun he hs hb => ?_, fun he hs hb => ?_, fun he ht reg hr => ?_, fun he hs hr => ?_⟩⟩
  · rw [busWrite_mbc3 v hm (by omega), Mbc3.write_ramTimerEnable v r _ (by omega)]
  · rw [busWrite_mbc3 v hm (by omega), Mbc3.write_romBank v r _ h (by omega)]
  · rw [busWrite_mbc3 v hm (by omega), Mbc3.write_select v r _ h (by omega)]
  · rw [busWrite_mbc3 v hm (by omega), Mbc3.write_latch v r _ h]
    split
    · rw [Mbc3.latch_eq]
    · rw [State.with_mbc_self hm]
  · rw [busRead_switchBank hm nofun h h', Mbc.switchBank, zeroToOne_toNat]
  · exact ramWindow_openBus v h h' (ramTarget_mbc3_disabled hm he)
  · exact ramWindow_absent v h h' (ramTarget_mbc3_bank hm he hs) hb
  · exact ramWindow_bank v h h' (ramTarget_mbc3_bank hm he hs) hb
  · have hs : 0x07 < r.select.toNat := (rtcRegOf_range hr).1
    obtain ⟨hread, hwrite⟩ := ramWindow_rtc v h h' (ramTarget_mbc3_rtc hm he hs hr ht)
    rw [rtcRead_mbc3 hm] at hread
    rw [rtcWrite_mbc3 v hm] at hwrite
    exact ⟨hread, hwrite⟩
  · exact ramWindow_unselected v h h' (ramTarget_mbc3_unselected hm he hs hr)

/-- A write of an MBC5 register that records no `Rumble` event (R261). -/
theorem busWrite_mbc5_silent {s : State} {r : Mbc5} {a : Addr} (v : Byte) (hm : s.cart.mbc = .mbc5 r)
    (h : a.toNat < 0x8000) (hr : ¬(s.cart.rumble = true ∧ 0x4000 ≤ a.toNat ∧ a.toNat < 0x6000)) :
    busWrite a v s = .ok () { s with cart := { s.cart with mbc := .mbc5 (r.write s.cart.rumble a.toNat v) } } := by
  rw [busWrite_mbc5 v hm h, rumbleEvents_none v hr, List.append_nil]

/-- Settles O21: a register write by its range, with the motor's event on a rumble cartridge, the switchable window with
no remap of bank 0, and the RAM window by `ramEnable` and the bank count. -/
theorem mbc5Mapping : Obligations.Mbc5Mapping := by
  intro s r a v hm
  dsimp only
  refine ⟨fun h => ?_, fun h h' => ?_, fun h h' => ?_, fun h h' hr => ?_, fun h h' hr => ?_, fun h h' => ?_,
    busRead_fixedBank0 hm nofun rfl, fun h h' => ?_, fun h h' => ⟨fun he => ?_, fun he => ?_, fun he => ?_⟩⟩
  · rw [busWrite_mbc5_silent v hm (by omega) (by omega), Mbc5.write_ramEnable v r _ (by omega)]
  · rw [busWrite_mbc5_silent v hm (by omega) (by omega), Mbc5.write_romBankLo v r _ h (by omega)]
  · rw [busWrite_mbc5_silent v hm (by omega) (by omega), Mbc5.write_romBankHi v r _ h (by omega)]
  · rw [busWrite_mbc5_silent v hm (by omega) (by simp [hr]), Mbc5.write_ramBank v r hr h (by omega)]
  · rw [busWrite_mbc5 v hm (by omega), rumbleEvents_mbc5 v hm hr h (by omega),
      Mbc5.write_ramBank_rumble v r hr h (by omega)]
  · rw [busWrite_mbc5_silent v hm (by omega) (by omega), Mbc5.write_above v r _ h, State.with_mbc_self hm]
  · rw [busRead_switchBank hm nofun h h', Mbc.switchBank]
  · exact ramWindow_openBus v h h' (by rw [ramTarget_mbc5 hm, he]; rfl)
  · exact ramWindow_absent v h h' (by rw [ramTarget_mbc5 hm, he]; rfl)
  · exact ramWindow_bank v h h' (by rw [ramTarget_mbc5 hm, he]; rfl)

end Sys2Proof.Machine
end

section
/-! PROOFS. The MBC3 clock: its registers' stored bits, and one tick (spec 20_memory.md R255, R256, 60_exceptions.md
R641). -/

namespace Sys2Proof.Machine

namespace Rtc

variable (t : Rtc) (v : Byte)

/-! ## Stored bits (R256) -/

/-- Storing one clock register leaves the other four as they read. -/
theorem get_set_other {r r' : RtcReg} (h : r' ≠ r) : (t.set r v).get r' = t.get r' := by
  cases r <;> cases r'
  case s.s | m.m | h.h | dl.dl | dh.dh => exact absurd rfl h
  all_goals rfl

theorem get_set_s : (t.set .s v).get .s = v &&& 0x3F := zeroExtend_extractLsb'_zero v (by decide)

theorem get_set_m : (t.set .m v).get .m = v &&& 0x3F := zeroExtend_extractLsb'_zero v (by decide)

theorem get_set_h : (t.set .h v).get .h = v &&& 0x1F := zeroExtend_extractLsb'_zero v (by decide)

theorem get_set_dl : (t.set .dl v).get .dl = v := rfl

/-- DH stores bits 0, 6 and 7. -/
theorem get_set_dh : (t.set .dh v).get .dh = v &&& 0xC1 := by
  show BitVec.ofBool (v.getLsbD 7) ++ BitVec.ofBool (v.getLsbD 6) ++ 0#5 ++ BitVec.ofBool (v.getLsbD 0) = v &&& 0xC1
  revert v; decide +kernel

/-! ## One tick (R641) -/

theorem day_lt : t.day < 512 := by
  have := t.dayLo.isLt
  unfold Rtc.day
  split <;> omega

theorem nextDay_halt : t.nextDay.halt = t.halt := by
  unfold Rtc.nextDay
  split <;> rfl

/-- The nine-bit day counter counts modulo 512. -/
theorem day_nextDay : t.nextDay.day = (t.day + 1) % 512 := by
  have hlt := t.day_lt
  unfold Rtc.nextDay
  split
  · rw [‹t.day = 511›]
    simp [Rtc.day]
  · show (if decide (256 ≤ t.day + 1) = true then 256 else 0) + (BitVec.ofNat 8 (t.day + 1)).toNat = _
    rw [BitVec.toNat_ofNat]
    simp only [decide_eq_true_iff]
    split <;> omega

/-- The carry is sticky, and a wrap of the day counter sets it. -/
theorem carry_nextDay : t.nextDay.carry = (t.carry || decide (t.day = 511)) := by
  unfold Rtc.nextDay
  split
  · simp [‹t.day = 511›]
  · simp [‹¬t.day = 511›]

theorem tick_halted (h : t.halt = true) : t.tick = t := if_pos h

section Running

variable (h : t.halt = false)
include h

theorem tick_sec (hs : t.sec ≠ 59) : t.tick = { t with sec := BitVec.ofNat 6 (t.sec.toNat + 1) } := by
  rw [Rtc.tick, if_neg (by simp [h]), if_pos hs, ofNat_toNat_succ]

theorem tick_min (hs : t.sec = 59) (hm : t.min ≠ 59) :
    t.tick = { t with sec := 0, min := BitVec.ofNat 6 (t.min.toNat + 1) } := by
  rw [Rtc.tick, if_neg (by simp [h]), if_neg (not_not.2 hs), if_pos hm, ofNat_toNat_succ]

theorem tick_hour (hs : t.sec = 59) (hm : t.min = 59) (hh : t.hour ≠ 23) :
    t.tick = { t with sec := 0, min := 0, hour := BitVec.ofNat 5 (t.hour.toNat + 1) } := by
  rw [Rtc.tick, if_neg (by simp [h]), if_neg (not_not.2 hs), if_neg (not_not.2 hm), if_pos hh, ofNat_toNat_succ]

theorem tick_day (hs : t.sec = 59) (hm : t.min = 59) (hh : t.hour = 23) :
    t.tick = { t.nextDay with sec := 0, min := 0, hour := 0 } := by
  rw [Rtc.tick, if_neg (by simp [h]), if_neg (not_not.2 hs), if_neg (not_not.2 hm), if_neg (not_not.2 hh)]

end Running

end Rtc

/-! ## `RtcTick` on the machine (R641, R690) -/

theorem rtcTick_timer {s : State} {r : Mbc3} (hm : s.cart.mbc = .mbc3 r) (ht : s.cart.timer = true) :
    EnvMove.apply s .rtcTick = { s with cart := { s.cart with mbc := .mbc3 { r with live := r.live.tick } } } := by
  simp only [EnvMove.apply, Cart.rtcTick, hm, ht, if_true]

theorem rtcTick_noTimer {s : State} (h : s.cart.timer = false ∨ ∀ r, s.cart.mbc ≠ .mbc3 r) :
    EnvMove.apply s .rtcTick = s := by
  have hc : s.cart.rtcTick = s.cart := by
    unfold Cart.rtcTick
    split
    · rename_i r hm
      rcases h with ht | hn
      · rw [ht]; rfl
      · exact absurd hm (hn r)
    · rfl
  simp only [EnvMove.apply, hc]

/-- Settles O20: the stored bits register by register, a tick by the first field below its top, and `RtcTick` on a
cartridge with and without a timer. -/
theorem rtcRegistersAndTick : Obligations.RtcRegistersAndTick := by
  refine ⟨⟨rfl, rfl, rfl, rfl, rfl, fun v hv => ?_, fun t r r' v hne => t.get_set_other v hne, fun t v =>
    ⟨t.get_set_s v, t.get_set_m v, t.get_set_h v, t.get_set_dl v, t.get_set_dh v⟩⟩, fun t => ?_,
    fun s r hm ht => rtcTick_timer hm ht, fun s h => rtcTick_noTimer h⟩
  · exact Option.eq_none_iff_forall_ne_some.2 fun reg hr => hv (rtcRegOf_range hr)
  · dsimp only
    refine ⟨t.tick_halted, t.tick_sec, t.tick_min, t.tick_hour, fun h hs hm hh => ?_⟩
    rw [t.tick_day h hs hm hh]
    exact ⟨rfl, rfl, rfl, t.nextDay_halt.trans h, t.day_nextDay, t.carry_nextDay⟩

end Sys2Proof.Machine
end

section
/-! PROOFS. Construction, check by check in the order of R230 (spec 20_memory.md R230, R231). -/

namespace Sys2Proof.Machine

/-! ## The code tables with a variant's maximum -/

theorem acceptedRomBanks_none {v : Variant} {code : Byte} (h : maxRomCode v < code.toNat ∨ romBanksOf code = none) :
    acceptedRomBanks v code = none := by
  unfold acceptedRomBanks
  rcases h with h | h
  · exact if_neg (Nat.not_le.2 h)
  · rw [h, ite_self]

theorem acceptedRomBanks_some {v : Variant} {code : Byte} {roms : Nat} (h : code.toNat ≤ maxRomCode v)
    (hr : romBanksOf code = some roms) : acceptedRomBanks v code = some roms :=
  (if_pos h).trans hr

theorem acceptedRamBanks_none {t : CartType} {code : Byte}
    (h : t.ram = true ∧ (maxRamCode t.variant < code.toNat ∨ ramBanksOf code = none)) :
    acceptedRamBanks t code = none := by
  unfold acceptedRamBanks
  rw [if_pos h.1]
  rcases h.2 with h | h
  · exact if_neg (Nat.not_le.2 h)
  · rw [h, ite_self]

theorem acceptedRamBanks_some {t : CartType} {code : Byte} {rams : Nat}
    (h : if t.ram = true then code.toNat ≤ maxRamCode t.variant ∧ ramBanksOf code = some rams else rams = 0) :
    acceptedRamBanks t code = some rams := by
  unfold acceptedRamBanks
  split
  · rename_i hram
    rw [if_pos hram] at h
    exact (if_pos h.1).trans h.2
  · rename_i hram
    rw [if_neg hram] at h
    rw [h]

/-! ## The checks -/

section Checks

variable {image : List Byte} (rtc : RtcInitial)

theorem construct_truncated (h : image.length < 0x0150) : construct image rtc = .error .headerTruncated := if_pos h

variable (hlen : 0x0150 ≤ image.length)
include hlen

theorem construct_unknownType (ht : cartTypeOf (imageByte image 0x0147) = none) :
    construct image rtc = .error (.unsupportedCartridgeType (imageByte image 0x0147)) := by
  simp only [construct, Header.parse, if_neg (Nat.not_lt.2 hlen), ht]

variable {t : CartType} (ht : cartTypeOf (imageByte image 0x0147) = some t)
include ht

theorem construct_badRomSize (hr : acceptedRomBanks t.variant (imageByte image 0x0148) = none) :
    construct image rtc = .error (.unsupportedRomSize (imageByte image 0x0148)) := by
  simp only [construct, Header.parse, if_neg (Nat.not_lt.2 hlen), ht, hr]

variable {roms : Nat} (hr : acceptedRomBanks t.variant (imageByte image 0x0148) = some roms)
include hr

theorem construct_badRamSize (hm : acceptedRamBanks t (imageByte image 0x0149) = none) :
    construct image rtc = .error (.unsupportedRamSize (imageByte image 0x0149)) := by
  simp only [construct, Header.parse, if_neg (Nat.not_lt.2 hlen), ht, hr, hm]

variable {rams : Nat} (hm : acceptedRamBanks t (imageByte image 0x0149) = some rams)
include hm

theorem construct_sizeMismatch (hs : image.length ≠ roms * 0x4000) :
    construct image rtc = .error (.imageSizeMismatch image.length) := by
  simp only [construct, Header.parse, if_neg (Nat.not_lt.2 hlen), ht, hr, hm, if_pos hs]

theorem construct_ok (hs : image.length = roms * 0x4000) :
    construct image rtc = .ok
      { typeCode := imageByte image 0x0147, battery := t.battery, timer := t.timer, rumble := t.rumble,
        romBanks := roms, ramBanks := rams, mbc := .atReset t.variant rtc } := by
  simp only [construct, Header.parse, if_neg (Nat.not_lt.2 hlen), ht, hr, hm, if_neg (not_not.2 hs)]

end Checks

section Load

variable (p : Params) (boot : BootRegs) (ifReset : Byte) (mem : InitialMemory) {rtc : RtcInitial} {image : List Byte}

theorem load_error {e : ConstructionError} (h : construct image rtc = .error e) :
    load p boot ifReset mem rtc image = .error e := by
  unfold load; rw [h]

theorem load_ok {cart : Cart} (h : construct image rtc = .ok cart) :
    load p boot ifReset mem rtc image = .ok (.resetWith p boot ifReset mem cart (Memory.ofBytes image 0)) := by
  unfold load; rw [h]

end Load

/-- Settles O8: each check of R230 where the ones before it have passed, and the image's bytes read back from the ROM. -/
theorem construction : Obligations.Construction := by
  intro p boot ifReset mem rtc image
  dsimp only
  refine ⟨fun h => load_error _ _ _ _ (construct_truncated rtc h),
    fun hlen ht => load_error _ _ _ _ (construct_unknownType rtc hlen ht), fun t hlen ht =>
    ⟨fun hr => load_error _ _ _ _ (construct_badRomSize rtc hlen ht (acceptedRomBanks_none hr)),
      fun roms hmax hcode => ?_⟩⟩
  have hr := acceptedRomBanks_some hmax hcode
  refine ⟨fun hm => load_error _ _ _ _ (construct_badRamSize rtc hlen ht hr (acceptedRamBanks_none hm)),
    fun rams hrams => ?_⟩
  have hm := acceptedRamBanks_some hrams
  refine ⟨fun hs => load_error _ _ _ _ (construct_sizeMismatch rtc hlen ht hr hm hs),
    fun hs => ⟨load_ok _ _ _ _ (construct_ok rtc hlen ht hr hm hs), fun k hk => ?_⟩⟩
  have hread := Memory.read_ofBytes image 0 k hk
  rwa [Nat.zero_add] at hread

end Sys2Proof.Machine
end

section
/-! PROOFS. The two opcode tables: every entry encodes to the bytes it is read from, and the regular blocks by the
fields of the byte (spec 30_encoding.md R300 to R311). -/

namespace Sys2Proof

variable (op b1 b2 : Byte) (y z : Fin 8)

/-! ## Lengths (R304) -/

theorem opLength_cases : opLength op = 1 ∨ opLength op = 2 ∨ opLength op = 3 := by
  unfold opLength
  split_ifs <;> simp

/-- The bytes after the opcode that belong to the instruction, an immediate word low byte first (R300, R303). -/
def operandBytes : List Byte :=
  if opLength op = 1 then [] else if opLength op = 2 then [b1] else immBytes (b2 ++ b1)

theorem length_operandBytes : (operandBytes op b1 b2).length + 1 = opLength op := by
  unfold operandBytes
  rcases opLength_cases op with h | h | h <;> rw [h] <;> rfl

/-! ## Every entry encodes to the bytes it is read from (R305, R306) -/

theorem byte_eq_ofNat : ∃ n < 256, op = BitVec.ofNat 8 n := ⟨op.toNat, op.isLt, by simp⟩

theorem encode_decodePrimary : encode (decodePrimary op b1 b2) = op :: operandBytes op b1 b2 := by
  obtain ⟨n, hn, rfl⟩ := byte_eq_ofNat op
  interval_cases n <;> rfl

theorem encode_decodeCb (op2 : Byte) : encode (decodeCb op2) = [prefixByte, op2] := by
  obtain ⟨n, hn, rfl⟩ := byte_eq_ofNat op2
  interval_cases n <;> rfl

theorem encode_decodeOp : encode (decodeOp op b1 b2) = op :: operandBytes op b1 b2 := by
  unfold decodeOp
  split
  · subst op
    exact encode_decodeCb b1
  · exact encode_decodePrimary op b1 b2

theorem length_encode_decodeOp : (encode (decodeOp op b1 b2)).length = opLength op := by
  rw [encode_decodeOp, List.length_cons, length_operandBytes]

/-- The decoder takes the bytes its first byte's length says, and ignores the ones that length does not reach. -/
theorem decode_of_three_bytes (rest : List Byte) : ∃ c1 c2,
    decode (op :: b1 :: b2 :: rest) = .ok (decodeOp op c1 c2) ((op :: b1 :: b2 :: rest).drop (opLength op)) := by
  rcases opLength_cases op with h | h | h
  · exact ⟨0, 0, by simp [decode, h]⟩
  · exact ⟨b1, 0, by simp [decode, h]⟩
  · exact ⟨b1, b2, by simp [decode, h]⟩

/-! ## The regular blocks by the fields of the byte (R301, R306, R307), one entry per value of y and z -/

/-- The byte of fields x, y, z (R301). -/
def opcode (x : Nat) (y z : Fin 8) : Byte := BitVec.ofNat 8 (64 * x + 8 * y.val + z.val)

/-- Every byte is the `opcode` of its own fields. -/
theorem opcode_fields : opcode (op.toNat / 64) (field3 op 3) (field3 op 0) = op := by
  have hy : (field3 op 3).val = op.toNat / 8 % 8 := by simp [field3, Nat.shiftRight_eq_div_pow]
  have hz : (field3 op 0).val = op.toNat % 8 := by simp [field3]
  have := op.isLt
  apply BitVec.eq_of_toNat_eq
  rw [opcode, hy, hz, BitVec.toNat_ofNat]
  omega

theorem decodeOp_load : decodeOp (opcode 1 y z) b1 b2 =
    match Opd.ofCode y, Opd.ofCode z with
    | .reg dst, .reg src => .ldRR dst src
    | .reg dst, .indHl => .ldRIndHl dst
    | .indHl, .reg src => .ldIndHlR src
    | .indHl, .indHl => .halt := by
  fin_cases y <;> fin_cases z <;> rfl

theorem decodeOp_alu : decodeOp (opcode 2 y z) b1 b2 = .aluO (AluOp.ofCode y) (Opd.ofCode z) := by
  fin_cases y <;> fin_cases z <;> rfl

theorem decodeOp_inc : decodeOp (opcode 0 y 4) b1 b2 = .incO (Opd.ofCode y) := by
  fin_cases y <;> rfl

theorem decodeOp_dec : decodeOp (opcode 0 y 5) b1 b2 = .decO (Opd.ofCode y) := by
  fin_cases y <;> rfl

theorem decodeOp_loadImmediate : decodeOp (opcode 0 y 6) b1 b2 =
    match Opd.ofCode y with
    | .reg dst => .ldRN dst b1
    | .indHl => .ldIndHlN8 b1 := by
  fin_cases y <;> rfl

theorem decodeOp_aluImmediate : decodeOp (opcode 3 y 6) b1 b2 = .aluN (AluOp.ofCode y) b1 := by
  fin_cases y <;> rfl

theorem decodeOp_rst : decodeOp (opcode 3 y 7) b1 b2 = .rst y := by
  fin_cases y <;> rfl

theorem decodeCb_shift : decodeCb (opcode 0 y z) = .shiftO (ShiftOp.ofCode y) (Opd.ofCode z) := by
  fin_cases y <;> fin_cases z <;> rfl

theorem decodeCb_bit : decodeCb (opcode 1 y z) = .bitO y (Opd.ofCode z) := by
  fin_cases y <;> fin_cases z <;> rfl

theorem decodeCb_res : decodeCb (opcode 2 y z) = .resO y (Opd.ofCode z) := by
  fin_cases y <;> fin_cases z <;> rfl

theorem decodeCb_set : decodeCb (opcode 3 y z) = .setO y (Opd.ofCode z) := by
  fin_cases y <;> fin_cases z <;> rfl

/-- After 0xCB, the entry is that of the CB block which the top two bits of the second byte name (R306). -/
theorem decodeOp_prefixByte (op2 : Byte) : decodeOp prefixByte op2 b2 =
    match op2.toNat / 64 with
    | 0 => .shiftO (ShiftOp.ofCode (field3 op2 3)) (Opd.ofCode (field3 op2 0))
    | 1 => .bitO (field3 op2 3) (Opd.ofCode (field3 op2 0))
    | 2 => .resO (field3 op2 3) (Opd.ofCode (field3 op2 0))
    | _ => .setO (field3 op2 3) (Opd.ofCode (field3 op2 0)) := by
  have hx : op2.toNat / 64 < 4 := by have := op2.isLt; omega
  have hop := opcode_fields op2
  rw [decodeOp, if_pos rfl]
  generalize op2.toNat / 64 = x, field3 op2 3 = y, field3 op2 0 = z at hx hop ⊢
  subst hop
  interval_cases x
  · exact decodeCb_shift y z
  · exact decodeCb_bit y z
  · exact decodeCb_res y z
  · exact decodeCb_set y z

/-- Settles O3: every entry encodes to the bytes it is read from, and a byte is `opcode` of its fields, so that each
block of the tables is one lemma over y and z. -/
theorem tablesByFields : Obligations.TablesByFields := by
  refine ⟨fun op b1 b2 rest => ⟨?_, rfl, ?_⟩, fun op b1 b2 => ?_, fun op2 b2 => decodeOp_prefixByte b2 op2⟩
  · have := opLength_cases op
    omega
  · obtain ⟨c1, c2, h⟩ := decode_of_three_bytes op b1 b2 rest
    exact ⟨_, h, length_encode_decodeOp op c1 c2⟩
  · have hop := opcode_fields op
    dsimp only
    generalize field3 op 3 = y, field3 op 0 = z at hop ⊢
    refine ⟨fun hx => ?_, fun hx => ?_, fun ⟨hx, hz⟩ => ?_, fun ⟨hx, hz⟩ => ?_, fun ⟨hx, hz⟩ => ?_,
      fun ⟨hx, hz⟩ => ?_, fun ⟨hx, hz⟩ => ?_⟩ <;> rw [← hop, hx]
    · exact decodeOp_load b1 b2 y z
    · exact decodeOp_alu b1 b2 y z
    · rw [show z = 4 from Fin.ext hz]; exact decodeOp_inc b1 b2 y
    · rw [show z = 5 from Fin.ext hz]; exact decodeOp_dec b1 b2 y
    · rw [show z = 6 from Fin.ext hz]; exact decodeOp_loadImmediate b1 b2 y
    · rw [show z = 6 from Fin.ext hz]; exact decodeOp_aluImmediate b1 b2 y
    · rw [show z = 7 from Fin.ext hz]; exact decodeOp_rst b1 b2 y

end Sys2Proof
end

section
/-! PROOFS. The 8-bit loads (spec 40_load8.md): what a transaction that faults leaves, what each shared form of the loads
does where its transaction completes and where it faults, and the obligations on them. -/

namespace Sys2Proof.Machine

section Forms

variable {s u t : State} {a : Addr} {v : Byte}

/-! ## A CPU transaction that faults (R600, R602) -/

/-- A read that faults changes nothing but the mode and the fault record. -/
theorem memRead_stop (h : s.readFaults a) : ∃ r, memRead a s = .stop (s.raised r) :=
  (memRead_cases a s).resolve_left fun ⟨w, u, e, _⟩ => (memRead_ok_iff a s).1 ⟨w, u, e⟩ h

theorem memWrite_stop (h : s.writeFaults a v) : ∃ t, memWrite a v s = .stop t := by
  cases e : memWrite a v s with
  | ok _ t => exact absurd h ((memWrite_ok_iff a v s).1 ⟨t, e⟩)
  | stop t => exact ⟨t, rfl⟩

/-! ## `x[r] <- MemRead(a, 1)` (R402, R405, R406, R409, R411, R413) -/

theorem loadFrom_of_reads (dst : R8) (k : Nat) (h : s.reads a v u) :
    loadFrom dst a k s = .next { u with regs := s.regs.setR8 dst v, cycles := s.cycles + k } := by
  rw [loadFrom, h.1, ← reads_regs h, ← reads_cycles h]
  rfl

theorem loadFrom_of_stop (dst : R8) (k : Nat) (h : memRead a s = .stop t) : loadFrom dst a k s = .next t := by
  rw [loadFrom, h]
  rfl

theorem loadsByte_of_exec {i : Instr} {dst : R8} {a : State → Addr} {k : Nat}
    (h : ∀ s, exec i s = loadFrom dst (a s) k s) : loadsByte i dst a k := by
  refine fun s => ⟨fun hf => ?_, fun hf => ?_⟩
  · obtain ⟨v, u, hu⟩ := memRead_reads hf
    exact ⟨v, u, hu, (h s).trans (loadFrom_of_reads dst k hu)⟩
  · obtain ⟨r, e⟩ := memRead_stop hf
    exact ⟨r, e, (h s).trans (loadFrom_of_stop dst k e)⟩

/-! ## `MemWrite(a, 1, v)` (R403, R404, R407, R408, R410, R412, R414) -/

theorem storeTo_of_writes (k : Nat) (h : s.writes a v t) : storeTo a v k s = .next { t with cycles := s.cycles + k } := by
  rw [storeTo, h.1, ← writes_cycles h]
  rfl

theorem storeTo_of_stop (k : Nat) (h : memWrite a v s = .stop t) : storeTo a v k s = .next t := by
  rw [storeTo, h]
  rfl

theorem storesByte_of_exec {i : Instr} {a : State → Addr} {v : State → Byte} {k : Nat}
    (h : ∀ s, exec i s = storeTo (a s) (v s) k s) : storesByte i a v k := by
  refine fun s => ⟨fun hf => ?_, fun hf => ?_⟩
  · obtain ⟨t, ht⟩ := memWrite_writes hf
    exact ⟨t, ht, (h s).trans (storeTo_of_writes k ht)⟩
  · obtain ⟨t, e⟩ := memWrite_stop hf
    exact ⟨t, e, (h s).trans (storeTo_of_stop k e)⟩

/-! ## The access at HL, then HL moves (R415 to R418) -/

theorem loadMoveHl_of_reads (step : Addr) (h : s.reads s.regs.hl v u) :
    loadMoveHl step s = .next { u with
      regs := { s.regs with a := v }.setPair .hl (s.regs.hl + step), cycles := s.cycles + 2 } := by
  rw [loadMoveHl, h.1, ← reads_regs h, ← reads_cycles h]
  rfl

theorem loadMoveHl_of_stop (step : Addr) (h : memRead s.regs.hl s = .stop t) : loadMoveHl step s = .next t := by
  rw [loadMoveHl, h]
  rfl

theorem storeMoveHl_of_writes (step : Addr) (h : s.writes s.regs.hl s.regs.a t) :
    storeMoveHl step s = .next { t with
      regs := s.regs.setPair .hl (s.regs.hl + step), cycles := s.cycles + 2 } := by
  rw [storeMoveHl, h.1, ← writes_regs h, ← writes_cycles h]
  rfl

theorem storeMoveHl_of_stop (step : Addr) (h : memWrite s.regs.hl s.regs.a s = .stop t) :
    storeMoveHl step s = .next t := by
  rw [storeMoveHl, h]
  rfl

end Forms

/-! ## The encodings by operand code (R301, R303) -/

theorem encode_ldRR (dst src : R8) : encode (.ldRR dst src) = [0b01#2 ++ dst.code ++ src.code] := by
  cases dst <;> cases src <;> rfl

theorem encode_ldRN (dst : R8) (n : Byte) : encode (.ldRN dst n) = [0b00#2 ++ dst.code ++ 0b110#3, n] := by
  cases dst <;> rfl

theorem encode_ldRIndHl (dst : R8) : encode (.ldRIndHl dst) = [0b01#2 ++ dst.code ++ 0b110#3] := by
  cases dst <;> rfl

theorem encode_ldIndHlR (src : R8) : encode (.ldIndHlR src) = [0b01110#5 ++ src.code] := by
  cases src <;> rfl

/-- A 16-bit immediate stands low byte first (R303). -/
theorem immBytes_append (hi lo : Byte) : immBytes (hi ++ lo) = [lo, hi] :=
  congrArg₂ (fun l h => [l, h]) (lo8_append hi lo) (hi8_append hi lo)

/-! ## The obligations -/

/-- Settles O22: every destination and source by `exec_ldRR` and `exec_ldRN`. -/
theorem loadRegister : Obligations.LoadRegister :=
  ⟨fun dst src s => ⟨encode_ldRR dst src, exec_ldRR dst src s⟩, fun dst n s => ⟨encode_ldRN dst n, exec_ldRN dst n s⟩⟩

/-- Settles O23: each of them runs `loadFrom`, the `LDH` forms at an address of the high page. -/
theorem loadFromMemory : Obligations.LoadFromMemory := by
  refine ⟨fun dst => ⟨encode_ldRIndHl dst, loadsByte_of_exec (exec_ldRIndHl dst)⟩,
    ⟨rfl, loadsByte_of_exec fun _ => rfl⟩, ⟨rfl, loadsByte_of_exec fun _ => rfl⟩,
    fun lo hi => ⟨congrArg (0xFA :: ·) (immBytes_append hi lo), loadsByte_of_exec fun _ => rfl⟩,
    ⟨rfl, loadsByte_of_exec fun s => ?_⟩, fun n => ⟨rfl, loadsByte_of_exec fun s => ?_⟩⟩
  · exact congrArg (loadFrom .a · 2 s) (highPage_eq s.regs.c)
  · exact congrArg (loadFrom .a · 3 s) (highPage_eq n)

/-- Settles O24: each of them runs `storeTo`, the `LDH` forms at an address of the high page. -/
theorem storeToMemory : Obligations.StoreToMemory := by
  refine ⟨fun src => ⟨encode_ldIndHlR src, storesByte_of_exec (exec_ldIndHlR src)⟩,
    fun n => ⟨rfl, storesByte_of_exec fun _ => rfl⟩, ⟨rfl, storesByte_of_exec fun _ => rfl⟩,
    ⟨rfl, storesByte_of_exec fun _ => rfl⟩,
    fun lo hi => ⟨congrArg (0xEA :: ·) (immBytes_append hi lo), storesByte_of_exec fun _ => rfl⟩,
    ⟨rfl, storesByte_of_exec fun s => ?_⟩, fun n => ⟨rfl, storesByte_of_exec fun s => ?_⟩⟩
  · exact congrArg (storeTo · s.regs.a 2 s) (highPage_eq s.regs.c)
  · exact congrArg (storeTo · s.regs.a 3 s) (highPage_eq n)

/-- Settles O25: the four run `loadMoveHl` and `storeMoveHl` by 1 and -1, and the move wraps as the rules write it. -/
theorem loadStoreMoveHl : Obligations.LoadStoreMoveHl := by
  intro s
  dsimp only
  rw [← addr_add_one, ← addr_add_neg_one]
  refine ⟨rfl, rfl, rfl, rfl, fun hf => ?_, fun hf => ?_, fun hf => ?_, fun hf => ?_⟩
  · obtain ⟨v, u, hu⟩ := memRead_reads hf
    exact ⟨v, u, hu, loadMoveHl_of_reads 1 hu, loadMoveHl_of_reads (-1) hu⟩
  · obtain ⟨t, ht⟩ := memWrite_writes hf
    exact ⟨t, ht, storeMoveHl_of_writes 1 ht, storeMoveHl_of_writes (-1) ht⟩
  · obtain ⟨r, e⟩ := memRead_stop hf
    exact ⟨s.raised r, e, loadMoveHl_of_stop 1 e, loadMoveHl_of_stop (-1) e⟩
  · obtain ⟨t, e⟩ := memWrite_stop hf
    exact ⟨t, e, storeMoveHl_of_stop 1 e, storeMoveHl_of_stop (-1) e⟩

end Sys2Proof.Machine
end

section
/-! PROOFS. The 16-bit loads (spec 41_load16.md) and the 16-bit additions (spec 43_alu16.md R502, R503): what two writes
in a row at neighbouring addresses leave, what each shared form does where its transactions complete and where one
faults, and the obligations on them. -/

namespace Sys2Proof.Machine

section Forms

variable {s u t : State} {a v : Addr} {k : Nat}

/-! ## The end of an instruction made of transactions (R15, R600) -/

theorem finish_of_ok {r : Res Unit} (h : r = .ok () t) (hc : t.cycles = s.cycles) :
    r.finish k = .next { t with cycles := s.cycles + k } := by
  rw [h, ← hc]
  rfl

theorem finish_of_stop {r : Res Unit} (h : r = .stop t) : r.finish k = .next t := by
  rw [h]
  rfl

theorem bind_finish_of_stop {α : Type} {r : Res α} {f : α → State → Res Unit} (h : r = .stop t) :
    (r.bind f).finish k = .next t := by
  rw [h]
  rfl

/-! ## LD (n16),SP: two writes at neighbouring addresses (R431) -/

/-- The byte written first stays, if its address is plain storage. -/
theorem peek_fst_of_writes_writes {x y : Byte} (hu : s.writes a x u) (ht : u.writes (a + 1) y t)
    (hp : s.plain a = true) : t.peek a = some x := by
  have hpu : u.plain a = true := (plain_congr (writes_params hu) (locate_of_plain_write hp hu.1 a)).trans hp
  obtain ⟨-, -, -, hpeek⟩ := hu
  obtain ⟨-, -, hframe, -⟩ := ht
  obtain ⟨-, -, hkept⟩ := hframe a (not_touches_neighbour hpu (.inl (by bv_omega)))
  exact hkept.trans (hpeek hp)

/-- The byte written second stands there, if its address is plain storage: the first write does not remap it. -/
theorem peek_snd_of_writes_writes {x y : Byte} (hu : s.writes a x u) (ht : u.writes (a + 1) y t)
    (hp : s.plain (a + 1) = true) : t.peek (a + 1) = some y := by
  have hparams := writes_params hu
  obtain ⟨-, -, hframe, -⟩ := hu
  obtain ⟨-, -, -, hpeek⟩ := ht
  obtain ⟨hloc, -, -⟩ := hframe (a + 1) (not_touches_neighbour hp (.inr rfl))
  exact hpeek ((plain_congr hparams hloc).trans hp)

/-- After its first write completes, `LD (n16),SP` is its second write: SP is still what it was. -/
theorem execLdIndN16Sp_of_writes (hu : s.writes a (lo8 s.regs.sp) u) :
    execLdIndN16Sp a s = (memWrite (a + 1) (hi8 s.regs.sp) u).finish 5 := by
  rw [execLdIndN16Sp, hu.1, ← writes_regs hu]
  rfl

/-! ## `Push16(v)` (R433, R434) -/

/-- `i` is `Push16(v)` in 4 cycles: it ends in the fault where the push raises one, and else completes. -/
theorem push_of_exec {i : Instr} (h : exec i s = pushValue v s) :
    pushFaultEnds i v s
    ∧ (¬s.pushFaults v → ∃ t, s.pushes v t ∧ exec i s = .next { t with cycles := s.cycles + 4 }) := by
  refine ⟨fun t ht => h.trans (finish_of_stop ht), fun hf => ?_⟩
  obtain ⟨t, hpushes, hok, hcycles⟩ := push16_pushes hf
  exact ⟨t, hpushes, h.trans (finish_of_ok hok hcycles)⟩

/-! ## `x[rr] <- Pop16()` (R436, R437) -/

theorem popPair_of_pop16 (p : StackPair) (h : pop16 s = .ok v t) (hc : t.cycles = s.cycles) :
    popPair p s = .next { t with regs := t.regs.setStackPair p v, cycles := s.cycles + 3 } := by
  rw [popPair, h, ← hc]
  rfl

theorem execPopAf_of_pop16 (h : pop16 s = .ok v t) (hc : t.cycles = s.cycles) :
    execPopAf s = .next { t with regs := { t.regs with a := hi8 v, f := lo8 v &&& 0xF0 }, cycles := s.cycles + 3 } := by
  rw [execPopAf, h, ← hc]
  rfl

end Forms

/-! ## The encodings by operand code (R301) -/

theorem encode_ldPairN (p : Pair) (n : Addr) :
    encode (.ldPairN p n) = (0b00#2 ++ p.code ++ 0b0001#4) :: immBytes n := by
  cases p <;> rfl

theorem encode_incPair (p : Pair) : encode (.incPair p) = [0b00#2 ++ p.code ++ 0b0011#4] := by
  cases p <;> rfl

theorem encode_decPair (p : Pair) : encode (.decPair p) = [0b00#2 ++ p.code ++ 0b1011#4] := by
  cases p <;> rfl

theorem encode_addHl (p : Pair) : encode (.addHl p) = [0b00#2 ++ p.code ++ 0b1001#4] := by
  cases p <;> rfl

theorem encode_push (p : StackPair) : encode (.push p) = [0b11#2 ++ p.code ++ 0b0101#4] := by
  cases p <;> rfl

theorem encode_pop (p : StackPair) : encode (.pop p) = [0b11#2 ++ p.code ++ 0b0001#4] := by
  cases p <;> rfl

/-! ## The obligations -/

/-- Settles O26: the families run `ldPairImm` and `movePair`, and the moves by 1 and -1 wrap as the rules write them. -/
theorem loadAndMovePair : Obligations.LoadAndMovePair := by
  refine ⟨⟨fun p lo hi s => ⟨?_, exec_ldPairN p _ s⟩, rfl, fun _ => rfl⟩,
    fun p s => ⟨encode_incPair p, encode_decPair p, ?_, ?_⟩⟩
  · rw [encode_ldPairN, immBytes_append]
  · rw [← addr_add_one]
    exact exec_incPair p s
  · rw [← addr_add_neg_one]
    exact exec_decPair p s

/-- Settles O27: the two writes complete together by `writePair_ok`, and neither disturbs the other's byte. -/
theorem storeSp : Obligations.StoreSp := by
  refine fun lo hi s => ⟨congrArg (0x08 :: ·) (immBytes_append hi lo), fun hf => ?_, fun _ h => ?_,
    fun u t hu ht => ?_⟩
  · obtain ⟨u, hu, hsnd⟩ := writePair_ok hf
    obtain ⟨t, ht⟩ := hsnd u.regs
    have hcycles : t.cycles = s.cycles := (writes_cycles ht).trans (writes_cycles hu)
    exact ⟨u, t, hu, ht, (writes_regs ht).trans (writes_regs hu), peek_fst_of_writes_writes hu ht,
      peek_snd_of_writes_writes hu ht, (execLdIndN16Sp_of_writes hu).trans (finish_of_ok ht.1 hcycles)⟩
  · exact bind_finish_of_stop h
  · exact (execLdIndN16Sp_of_writes (writes_of hu)).trans (finish_of_stop ht)

/-- Settles O28: each PUSH runs `pushValue` of its pair. -/
theorem pushStoresPair : Obligations.PushStoresPair :=
  ⟨fun p s => ⟨encode_push p, push_of_exec (exec_push p s)⟩, fun _ => ⟨rfl, push_of_exec rfl⟩⟩

/-- Settles O29: `pop16_ok`, then the value goes to the pair's halves, F's through its mask. -/
theorem popLoadsPair : Obligations.PopLoadsPair := by
  refine ⟨fun p s => ⟨encode_pop p, fun t h => (exec_pop p s).trans (bind_finish_of_stop h), fun hf => ?_⟩,
    fun s => ⟨rfl, fun t h => bind_finish_of_stop h, fun hf => ?_⟩⟩
  · obtain ⟨v, t, hpops, hok, -, hcycles⟩ := pop16_ok hf
    exact ⟨v, t, hpops, (exec_pop p s).trans (popPair_of_pop16 p hok hcycles)⟩
  · obtain ⟨v, t, hpops, hok, -, hcycles⟩ := pop16_ok hf
    exact ⟨hi8 v, lo8 v, t, (hi8_append_lo8 v).symm ▸ hpops, execPopAf_of_pop16 hok hcycles⟩

/-- Settles O35: a sum of pairs is by definition the exact sum cut to 16 bits, a sum with the signed byte is one by
`add_sext16`, and F takes a byte of four flags. -/
theorem sixteenBitAdds : Obligations.SixteenBitAdds := by
  refine ⟨fun p s => ⟨encode_addHl p, _, exec_addHl p s, flagsAre_of_flagByte rfl, rfl⟩, fun e s => ?_⟩
  dsimp only
  rw [← add_sext16]
  exact ⟨rfl, rfl, ⟨_, rfl, flagsAre_of_flagByte rfl, rfl⟩, ⟨_, rfl, flagsAre_of_flagByte rfl, rfl⟩⟩

end Sys2Proof.Machine
end

section
/-! PROOFS. The 8-bit arithmetic and logic (spec 42_alu8.md): what each shared form does where its transactions complete
and where one faults, the results and flags as the rules write them, and the obligations on them. -/

namespace Sys2Proof.Machine

section Forms

variable {s u : State} {i : Instr} {o : Opd} {k : Nat}

/-! ## An operand whose transaction faults (R302, R546, R602) -/

theorem bind_of_stop {α β : Type} {r : Res α} {f : α → State → Res β} {t : State} (h : r = .stop t) :
    r.bind f = .stop t := by
  rw [h]
  rfl

theorem readFaultEnds_of_exec {g : Byte → State → Res Unit} (h : exec i s = ((readOpd o s).bind g).finish k) :
    readFaultEnds i o s := by
  rintro ⟨rfl, hf⟩
  obtain ⟨r, e⟩ := memRead_stop hf
  exact ⟨r, e, h.trans (bind_finish_of_stop e)⟩

/-- `g`, what follows the read, begins with the write back of `f` of the byte read. -/
theorem writeFaultEnds_of_exec {f : Byte → Byte} {g : Byte → State → Res Unit}
    (h : exec i s = ((readOpd o s).bind g).finish k)
    (hg : ∀ v u t, writeOpd o (f v) u = .stop t → g v u = .stop t) : writeFaultEnds i o f s := by
  rintro rfl v u t hread hwrite
  rw [← reads_regs (reads_of hread)] at hwrite
  rw [h, show readOpd .indHl s = .ok v u from hread]
  exact finish_of_stop (hg v u t hwrite)

/-! ## The forms where their transactions complete (R450, R484 to R487) -/

theorem exec_aluO_of_readOpd (op : AluOp) {v : Byte} (h : readOpd o s = .ok v u) :
    exec (.aluO op o) s = .next ((u.alu op v).addCycles (opdCost o 1 2)) := by
  rw [exec_aluO, aluOpd, h]
  rfl

/-- After a read and a write back that complete, what follows them is done from the state they leave. -/
theorem finish_of_update {f : Byte → Byte} {g : Byte → State → Res Unit} {v : Byte} {w : State}
    (hr : readOpd o s = .ok v u) (hw : writeOpd o (f v) u = .ok () w) :
    ((readOpd o s).bind fun v s => (writeOpd o (f v) s).bind fun _ s => g v s).finish k = (g v w).finish k := by
  rw [hr]
  show ((writeOpd o (f v) u).bind fun _ s => g v s).finish k = _
  rw [hw]
  rfl

end Forms

/-! ## The encodings by operation and operand code (R301) -/

theorem encode_aluO (op : AluOp) (o : Opd) : encode (.aluO op o) = [0b10#2 ++ op.code ++ o.code] := by
  cases o with
  | reg r => cases op <;> cases r <;> rfl
  | indHl => cases op <;> rfl

theorem encode_aluN (op : AluOp) (n : Byte) : encode (.aluN op n) = [0b11#2 ++ op.code ++ 0b110#3, n] := by
  cases op <;> rfl

theorem encode_incO (o : Opd) : encode (.incO o) = [0b00#2 ++ o.code ++ 0b100#3] := by
  cases o with
  | reg r => cases r <;> rfl
  | indHl => rfl

theorem encode_decO (o : Opd) : encode (.decO o) = [0b00#2 ++ o.code ++ 0b101#3] := by
  cases o with
  | reg r => cases r <;> rfl
  | indHl => rfl

/-! ## The results on A (R451, R452, R472 to R480) -/

/-- A and F from the adder, as the statements write an addition (R451). -/
theorem added_setArith (u : State) (v : Byte) (cin : Bool) (k : Nat) :
    u.added ((u.setArith (add8 u.regs.a v cin) false).addCycles k) v cin.toNat k :=
  ⟨rfl, BitVec.toNat_ofNat _ 8, flagsAre_of_flagByte rfl⟩

/-- A difference and the flags that say it, whether A takes it or not (R452). -/
theorem subtracts_of_flagByte {u t : State} {v : Byte} {cin : Bool} {r : AluResult} (hr : r = sub8 u.regs.a v cin)
    (hf : t.regs.f = flagByte (r.res == 0) true r.h r.c) : u.subtracts t v r.res cin.toNat := by
  subst hr
  exact ⟨sub8_res_toNat u.regs.a v cin, flagsAre_of_flagByte hf⟩

/-- The three logical operations of the statement write their result by one form. -/
theorem alu_logic {op : AluOp} {f : Byte → Byte → Byte} {h : Bool}
    (hop : (op = .and ∧ f = (· &&& ·) ∧ h = true) ∨ (op = .xor ∧ f = (· ^^^ ·) ∧ h = false)
      ∨ (op = .or ∧ f = (· ||| ·) ∧ h = false)) (s : State) (v : Byte) :
    s.alu op v = s.setLogic (f s.regs.a v) h := by
  rcases hop with ⟨rfl, rfl, rfl⟩ | ⟨rfl, rfl, rfl⟩ | ⟨rfl, rfl, rfl⟩ <;> rfl

/-! ## The flags of INC and DEC (R484 to R487) -/

theorem succ_eq_zero_iff (v : Byte) : v + 1 = 0 ↔ v = 0xFF := by bv_omega

theorem pred_eq_zero_iff (v : Byte) : v - 1 = 0 ↔ v = 1 := by bv_omega

theorem flagsAre_incFlags (s : State) (v : Byte) : (s.incFlags v).regs.flagsAre (decide (v = 0xFF)) false
    (decide (v.toNat % 16 = 15)) (s.regs.f.getLsbD 4) := by
  rw [← decide_eq_decide.2 (succ_eq_zero_iff v)]
  exact flagsAre_of_flagByte rfl

theorem flagsAre_decFlags (s : State) (v : Byte) : (s.decFlags v).regs.flagsAre (decide (v = 1)) true
    (decide (v.toNat % 16 = 0)) (s.regs.f.getLsbD 4) := by
  rw [← decide_eq_decide.2 (pred_eq_zero_iff v)]
  exact flagsAre_of_flagByte rfl

/-! ## DAA (R488) -/

/-- The two halves of the adjustment share no bit, so that their union is their sum. -/
theorem daaAdjustment_toNat (high low : Bool) :
    ((if high then 0x60#8 else 0) ||| (if low then 0x06#8 else 0)).toNat
      = (if high then 0x60 else 0) + (if low then 0x06 else 0) := by
  cases high <;> cases low <;> rfl

/-- The adjustment and the carry by the tests of the rule. -/
theorem daaAdjust_spec (a : Byte) (n h c : Bool) :
    (daaAdjust a n h c).2 = (if n then c else c || decide (0x99 < a.toNat))
    ∧ (daaAdjust a n h c).1.toNat = (if (daaAdjust a n h c).2 then 0x60 else 0)
      + (if (if n then h else h || decide (9 < a.toNat % 16)) then 0x06 else 0) := by
  cases n
  · exact ⟨rfl, daaAdjustment_toNat _ _⟩
  · exact ⟨rfl, daaAdjustment_toNat _ _⟩

/-- A byte adjusted down or up, modulo 256. -/
theorem adjusted_toNat (a d : Byte) (n : Bool) : (if n then a - d else a + d).toNat
    = (if n then a.toNat + 256 - d.toNat else a.toNat + d.toNat) % 256 := by
  cases n
  · exact BitVec.toNat_add a d
  · have := d.isLt
    show (a - d).toNat = (a.toNat + 256 - d.toNat) % 256
    rw [BitVec.toNat_sub]
    omega

/-! ## The obligations -/

/-- Settles O30: both run the adder on the operand read, ADC with F.C, which the read leaves alone. -/
theorem addAndAdc : Obligations.AddAndAdc := by
  refine ⟨fun o s => ⟨encode_aluO .add o, encode_aluO .adc o, readFaultEnds_of_exec (exec_aluO .add o s),
    readFaultEnds_of_exec (exec_aluO .adc o s), fun hf => ?_⟩, fun n s => ⟨rfl, rfl,
    ⟨_, exec_aluN .add n s, added_setArith s n false 2⟩, ⟨_, exec_aluN .adc n s, added_setArith s n s.regs.cy 2⟩⟩⟩
  obtain ⟨v, u, hopd, hread, hregs, -⟩ := readOpd_ok hf
  rw [← hregs]
  exact ⟨v, u, hopd, ⟨_, exec_aluO_of_readOpd .add hread, added_setArith u v false _⟩,
    ⟨_, exec_aluO_of_readOpd .adc hread, added_setArith u v u.regs.cy _⟩⟩

/-- Settles O31: all three run the subtractor on the operand read, SBC with F.C, and CP keeps the flags alone. -/
theorem subSbcAndCp : Obligations.SubSbcAndCp := by
  refine ⟨fun o s => ⟨encode_aluO .sub o, encode_aluO .sbc o, encode_aluO .cp o,
    readFaultEnds_of_exec (exec_aluO .sub o s), readFaultEnds_of_exec (exec_aluO .sbc o s),
    readFaultEnds_of_exec (exec_aluO .cp o s), fun hf => ?_⟩, fun n s => ⟨rfl, rfl, rfl,
    ⟨_, _, exec_aluN .sub n s, subtracts_of_flagByte (cin := false) rfl rfl, rfl⟩,
    ⟨_, _, exec_aluN .sbc n s, subtracts_of_flagByte (cin := s.regs.cy) rfl rfl, rfl⟩,
    ⟨_, _, exec_aluN .cp n s, subtracts_of_flagByte (cin := false) rfl rfl, rfl⟩⟩⟩
  obtain ⟨v, u, hopd, hread, hregs, hcycles⟩ := readOpd_ok hf
  rw [← hregs, ← hcycles]
  exact ⟨v, u, hopd,
    ⟨_, _, exec_aluO_of_readOpd .sub hread, subtracts_of_flagByte (cin := false) rfl rfl, rfl⟩,
    ⟨_, _, exec_aluO_of_readOpd .sbc hread, subtracts_of_flagByte (cin := u.regs.cy) rfl rfl, rfl⟩,
    ⟨_, _, exec_aluO_of_readOpd .cp hread, subtracts_of_flagByte (cin := false) rfl rfl, rfl⟩⟩

/-- Settles O32: by `alu_logic` the three operations are one form. -/
theorem andXorOr : Obligations.AndXorOr := by
  refine fun op f h hop => ⟨fun o s => ⟨encode_aluO op o, readFaultEnds_of_exec (exec_aluO op o s), fun hf => ?_⟩,
    fun n s => ⟨encode_aluN op n, (s.setLogic (f s.regs.a n) h).addCycles 2, ?_, flagsAre_of_flagByte rfl, rfl⟩⟩
  · obtain ⟨v, u, hopd, hread, -, hcycles⟩ := readOpd_ok hf
    rw [← hcycles]
    refine ⟨v, u, (u.setLogic (f u.regs.a v) h).addCycles (opdCost o 1 2), hopd, ?_, flagsAre_of_flagByte rfl, rfl⟩
    rw [exec_aluO_of_readOpd op hread, alu_logic hop]
  · rw [exec_aluN, aluImm, alu_logic hop]

/-- Settles O33: by `updateOpd_ok` the read and the write back complete together, and neither writes F. -/
theorem incAndDec : Obligations.IncAndDec := by
  refine fun o s => ⟨encode_incO o, encode_decO o, readFaultEnds_of_exec (exec_incO o s),
    writeFaultEnds_of_exec (exec_incO o s) fun _ _ _ => bind_of_stop, readFaultEnds_of_exec (exec_decO o s),
    writeFaultEnds_of_exec (exec_decO o s) fun _ _ _ => bind_of_stop, fun hf => ?_, fun hf => ?_⟩
  · obtain ⟨v, u, w, hopd, hput, hread, hwrite, -, hflags, hcycles, -⟩ := updateOpd_ok (· + 1) hf
    rw [← hflags, ← hcycles]
    exact ⟨v, u, w, _, hopd, hput, (exec_incO o s).trans (finish_of_update hread hwrite), flagsAre_incFlags w v, rfl⟩
  · obtain ⟨v, u, w, hopd, hput, hread, hwrite, -, hflags, hcycles, -⟩ := updateOpd_ok (· - 1) hf
    rw [← hflags, ← hcycles]
    exact ⟨v, u, w, _, hopd, hput, (exec_decO o s).trans (finish_of_update hread hwrite), flagsAre_decFlags w v, rfl⟩

/-- Settles O34: DAA's adjustment and carry are the rule's by `daaAdjust_spec`; the others write F as four flags. -/
theorem daaCplScfCcf : Obligations.DaaCplScfCcf := by
  refine ⟨⟨rfl, fun s => ?_⟩, rfl, rfl, rfl, fun s => ⟨⟨_, rfl, flagsAre_of_flagByte rfl, rfl⟩,
    ⟨_, rfl, flagsAre_of_flagByte rfl, rfl⟩, ⟨_, rfl, flagsAre_of_flagByte rfl, rfl⟩⟩⟩
  obtain ⟨hcarry, hadj⟩ := daaAdjust_spec s.regs.a s.regs.n s.regs.hc s.regs.cy
  rw [hcarry] at hadj
  refine ⟨_, rfl, ?_, flagsAre_of_flagByte ?_, rfl⟩
  · exact (adjusted_toNat s.regs.a _ s.regs.n).trans (by rw [hadj]; rfl)
  · exact congrArg (flagByte _ s.regs.n false) hcarry

end Sys2Proof.Machine
end

section
/-! PROOFS. The rotates, shifts and bit operations (spec 44_rotate_shift_bit.md): each shared form by the rule's own
results, what it does where its transactions complete and where one faults, and the obligations on them. -/

namespace Sys2Proof.Machine

/-! ## The encodings by operation, bit and operand code (R301, R306) -/

/-- The byte of fields x, y, z, bit by bit. -/
theorem opcode_eq_append (x : BitVec 2) (y z : BitVec 3) : opcode x.toNat y.toFin z.toFin = x ++ y ++ z := by
  apply BitVec.eq_of_toNat_eq
  rw [opcode, BitVec.toNat_ofNat, BitVec.toNat_append, BitVec.toNat_append,
    ← Nat.shiftLeft_add_eq_or_of_lt y.isLt, ← Nat.shiftLeft_add_eq_or_of_lt z.isLt, Nat.shiftLeft_eq, Nat.shiftLeft_eq]
  simp only [BitVec.val_toFin]
  omega

theorem ofCode_code_opd (o : Opd) : Opd.ofCode o.code.toFin = o := by
  cases o with
  | reg r => cases r <;> rfl
  | indHl => rfl

theorem ofCode_code_shiftOp (op : ShiftOp) : ShiftOp.ofCode op.code.toFin = op := by
  cases op <;> rfl

/-- An entry of the CB table encodes to 0xCB and the byte of the fields that name it. -/
theorem encode_of_decodeCb {i : Instr} {x : BitVec 2} {y z : BitVec 3}
    (h : decodeCb (opcode x.toNat y.toFin z.toFin) = i) : encode i = [0xCB, x ++ y ++ z] := by
  rw [← h, encode_decodeCb, opcode_eq_append]
  rfl

section Encodings

variable (op : ShiftOp) (b : Fin 8) (o : Opd)

theorem encode_shiftO : encode (.shiftO op o) = [0xCB, 0b00#2 ++ op.code ++ o.code] :=
  encode_of_decodeCb ((decodeCb_shift _ _).trans (congrArg₂ _ (ofCode_code_shiftOp op) (ofCode_code_opd o)))

theorem encode_bitO : encode (.bitO b o) = [0xCB, 0b01#2 ++ BitVec.ofNat 3 b.val ++ o.code] :=
  encode_of_decodeCb ((decodeCb_bit _ _).trans (congrArg₂ _ (Fin.ofNat_val_eq_self b) (ofCode_code_opd o)))

theorem encode_resO : encode (.resO b o) = [0xCB, 0b10#2 ++ BitVec.ofNat 3 b.val ++ o.code] :=
  encode_of_decodeCb ((decodeCb_res _ _).trans (congrArg₂ _ (Fin.ofNat_val_eq_self b) (ofCode_code_opd o)))

theorem encode_setO : encode (.setO b o) = [0xCB, 0b11#2 ++ BitVec.ofNat 3 b.val ++ o.code] :=
  encode_of_decodeCb ((decodeCb_set _ _).trans (congrArg₂ _ (Fin.ofNat_val_eq_self b) (ofCode_code_opd o)))

end Encodings

/-! ## The rotates of A (R520 to R523) -/

theorem rotateA_eq (op : ShiftOp) (s : State) : rotateA op s =
    .next (((s.setR8 .a (shiftResult op s.regs.a s.regs.cy)).setFlags false false false
      (shiftCarry op s.regs.a)).addCycles 1) := by
  rw [rotateA, shift8_eq]

/-- An instruction that is the rotate `op` of A: its result and its carry are the rule's, and Z is 0. -/
theorem rotatesA_of_exec {i : Instr} {op : ShiftOp} {s : State} (h : exec i s = rotateA op s) :
    ∃ t, exec i s = .next t ∧ t.regs.flagsAre false false false (shiftCarry op s.regs.a)
      ∧ t = { s with
          regs := { s.regs with a := shiftResult op s.regs.a (s.regs.f.getLsbD 4), f := t.regs.f }
          cycles := s.cycles + 1 } :=
  ⟨_, h.trans (rotateA_eq op s), flagsAre_of_flagByte rfl, rfl⟩

/-! ## The prefixed rotates, shifts and SWAP (R524 to R539) -/

theorem readOpd_regs {o : Opd} {s u : State} {v : Byte} (h : readOpd o s = .ok v u) : u.regs = s.regs := by
  cases o with
  | reg r => cases h; rfl
  | indHl => exact reads_regs (reads_of h)

/-- The carry in is F.C before the instruction: the read of the operand leaves the registers alone. -/
theorem exec_shiftO_eq (op : ShiftOp) (o : Opd) (s : State) : exec (.shiftO op o) s =
    ((readOpd o s).bind fun v u => (writeOpd o (shiftResult op v s.regs.cy) u).bind fun _ w =>
      .ok () (w.shiftFlags (shiftResult op v s.regs.cy, shiftCarry op v))).finish (opdCost o 2 4) := by
  rw [exec_shiftO, shiftOpd]
  cases e : readOpd o s with
  | stop t => rfl
  | ok v u => simp only [Res.bind, shift8_eq, readOpd_regs e]

theorem readFaultEnds_shiftO (op : ShiftOp) (o : Opd) (s : State) : readFaultEnds (.shiftO op o) o s :=
  readFaultEnds_of_exec (exec_shiftO_eq op o s)

theorem writeFaultEnds_shiftO (op : ShiftOp) (o : Opd) (s : State) :
    writeFaultEnds (.shiftO op o) o (shiftResult op · s.regs.cy) s :=
  writeFaultEnds_of_exec (exec_shiftO_eq op o s) fun _ _ _ => bind_of_stop

theorem shiftO_completes {op : ShiftOp} {o : Opd} {s : State}
    (hf : ¬s.opdUpdateFaults o (shiftResult op · s.regs.cy)) :
    ∃ v u w t, s.opdReads o v u ∧ u.opdWrites o (shiftResult op v s.regs.cy) w ∧ exec (.shiftO op o) s = .next t
      ∧ t.regs.flagsAre (decide (shiftResult op v s.regs.cy = 0)) false false (shiftCarry op v)
      ∧ t = { w with regs := { w.regs with f := t.regs.f }, cycles := s.cycles + opdCost o 2 4 } := by
  obtain ⟨v, u, w, hopd, hput, hread, hwrite, -, -, hcycles, -⟩ := updateOpd_ok (shiftResult op · s.regs.cy) hf
  rw [← hcycles]
  exact ⟨v, u, w, _, hopd, hput, (exec_shiftO_eq op o s).trans (finish_of_update hread hwrite),
    flagsAre_of_flagByte rfl, rfl⟩

/-! ## BIT, RES and SET (R540 to R545) -/

theorem exec_bitO_of_readOpd (b : Fin 8) {o : Opd} {s u : State} {v : Byte} (h : readOpd o s = .ok v u) :
    exec (.bitO b o) s = .next ((u.bitFlags b v).addCycles (opdCost o 2 3)) := by
  rw [exec_bitO, bitOpd, h]
  rfl

theorem getLsbD_one_shiftLeft (b : Fin 8) (k : Nat) : (1#8 <<< b.val).getLsbD k = decide (k = b.val) := by
  have := BitVec.getLsbD_twoPow (w := 8) b.val k
  simpa [BitVec.twoPow, eq_comm] using this

theorem getLsbD_reset (v : Byte) (b : Fin 8) (k : Nat) :
    (v &&& ~~~(1#8 <<< b.val)).getLsbD k = (v.getLsbD k && decide (k ≠ b.val)) := by
  rw [BitVec.getLsbD_and, BitVec.getLsbD_not, getLsbD_one_shiftLeft, decide_not]
  by_cases hk : k < 8
  · rw [decide_eq_true hk, Bool.true_and]
  · rw [BitVec.getLsbD_of_ge v k (Nat.le_of_not_lt hk), Bool.false_and, Bool.false_and]

theorem getLsbD_set (v : Byte) (b : Fin 8) (k : Nat) :
    (v ||| 1#8 <<< b.val).getLsbD k = (v.getLsbD k || decide (k = b.val)) := by
  rw [BitVec.getLsbD_or, getLsbD_one_shiftLeft]

/-- An instruction that reads its operand and writes `f` of it back, and writes no flag, where both complete. -/
theorem update_completes {i : Instr} {o : Opd} {s : State} {k : Nat} {f : Byte → Byte}
    (h : exec i s = ((readOpd o s).bind fun v u => writeOpd o (f v) u).finish k) (hf : ¬s.opdUpdateFaults o f) :
    ∃ v u w, s.opdReads o v u ∧ u.opdWrites o (f v) w ∧ exec i s = .next { w with cycles := s.cycles + k } := by
  obtain ⟨v, u, w, hopd, hput, hread, hwrite, -, -, hcycles, -⟩ := updateOpd_ok f hf
  rw [hread] at h
  exact ⟨v, u, w, hopd, hput, h.trans (finish_of_ok hwrite hcycles)⟩

/-! ## The obligations -/

/-- Settles O36: the four of A run `rotateA`, and each prefixed one is its update by `exec_shiftO_eq`. -/
theorem rotates : Obligations.Rotates := by
  refine ⟨fun i op byte h => ?_, fun op o s _ => ⟨encode_shiftO op o, readFaultEnds_shiftO op o s,
    writeFaultEnds_shiftO op o s, shiftO_completes⟩⟩
  rcases h with ⟨rfl, rfl, rfl⟩ | ⟨rfl, rfl, rfl⟩ | ⟨rfl, rfl, rfl⟩ | ⟨rfl, rfl, rfl⟩ <;>
    exact ⟨rfl, fun _ => rotatesA_of_exec rfl⟩

/-- Settles O37: the shifts and SWAP are the same update as the prefixed rotates, by `exec_shiftO_eq`. -/
theorem shiftsAndSwap : Obligations.ShiftsAndSwap := fun op o s _ =>
  ⟨encode_shiftO op o, readFaultEnds_shiftO op o s, writeFaultEnds_shiftO op o s, shiftO_completes⟩

/-- Settles O38: BIT is the read and its flags; RES and SET are updates by a mask, which changes the bit `b` alone. -/
theorem bitOperations : Obligations.BitOperations := by
  refine ⟨fun b o s => ⟨encode_bitO b o, readFaultEnds_of_exec (exec_bitO b o s), fun hf => ?_⟩,
    fun b o s => ⟨encode_resO b o, encode_setO b o, readFaultEnds_of_exec (exec_resO b o s),
      writeFaultEnds_of_exec (exec_resO b o s) fun _ _ _ => id, readFaultEnds_of_exec (exec_setO b o s),
      writeFaultEnds_of_exec (exec_setO b o s) fun _ _ _ => id, fun hf => ?_, fun hf => ?_⟩⟩
  · obtain ⟨v, u, hopd, hread, hregs, hcycles⟩ := readOpd_ok hf
    rw [← hregs, ← hcycles]
    exact ⟨v, u, _, hopd, exec_bitO_of_readOpd b hread, flagsAre_of_flagByte rfl, rfl⟩
  · obtain ⟨v, u, w, hopd, hput, hexec⟩ := update_completes (exec_resO b o s) hf
    exact ⟨v, _, u, w, hopd, hput, getLsbD_reset v b, hexec⟩
  · obtain ⟨v, u, w, hopd, hput, hexec⟩ := update_completes (exec_setO b o s) hf
    exact ⟨v, _, u, w, hopd, hput, getLsbD_set v b, hexec⟩

end Sys2Proof.Machine
end

section
/-! PROOFS. Control transfer (spec 45_control.md): which way each conditional form goes, what a call and a return do
where their transactions complete and where one faults, and the obligations on them. -/

namespace Sys2Proof.Machine

/-! ## The encodings by condition and vector (R301) -/

section Encodings

variable (cc : Cond)

theorem encode_jpCc (n : Addr) : encode (.jpCc cc n) = (0b110#3 ++ cc.code ++ 0b010#3) :: immBytes n := by
  cases cc <;> rfl

theorem encode_jrCc (e : Byte) : encode (.jrCc cc e) = [0b001#3 ++ cc.code ++ 0b000#3, e] := by
  cases cc <;> rfl

theorem encode_callCc (n : Addr) : encode (.callCc cc n) = (0b110#3 ++ cc.code ++ 0b100#3) :: immBytes n := by
  cases cc <;> rfl

theorem encode_retCc : encode (.retCc cc) = [0b110#3 ++ cc.code ++ 0b000#3] := by
  cases cc <;> rfl

end Encodings

theorem encode_rst : ∀ y : Fin 8, encode (.rst y) = [0b11#2 ++ BitVec.ofNat 3 y.val ++ 0b111#3] := by
  decide

section Forms

variable {s t : State} {cc : Cond} {i : Instr} {v n : Addr} {k : Nat}

/-! ## Which way a conditional form goes (R562, R564, R566, R568) -/

theorem exec_callCc_taken (n : Addr) (h : s.regs.cond cc = true) : exec (.callCc cc n) s = callTo n 6 s :=
  (exec_callCc cc n s).trans (if_pos h)

theorem exec_callCc_notTaken (n : Addr) (h : s.regs.cond cc = false) : exec (.callCc cc n) s = notTaken 3 s :=
  (exec_callCc cc n s).trans (if_neg (Bool.eq_false_iff.mp h))

theorem exec_retCc_taken (h : s.regs.cond cc = true) : exec (.retCc cc) s = returnFrom 5 s :=
  (exec_retCc cc s).trans (if_pos h)

theorem exec_retCc_notTaken (h : s.regs.cond cc = false) : exec (.retCc cc) s = notTaken 2 s :=
  (exec_retCc cc s).trans (if_neg (Bool.eq_false_iff.mp h))

/-! ## `Push16(pc); pc <- t` (R565, R566, R569) -/

theorem callTo_of_push16 (n : Addr) (k : Nat) (h : push16 s.regs.pc s = .ok () t) (hc : t.cycles = s.cycles) :
    callTo n k s = .next { t with regs := { t.regs with pc := n }, cycles := s.cycles + k } := by
  rw [callTo, h, ← hc]
  rfl

theorem pushFaultEnds_of_callTo (h : exec i s = callTo n k s) : pushFaultEnds i s.regs.pc s :=
  fun _ ht => h.trans (bind_finish_of_stop ht)

/-! ## `pc <- Pop16()` (R567, R568, R571) -/

theorem returnFrom_of_pop16 (k : Nat) (h : pop16 s = .ok v t) (hc : t.cycles = s.cycles) :
    returnFrom k s = .next { t with regs := { t.regs with pc := v }, cycles := s.cycles + k } := by
  rw [returnFrom, h, ← hc]
  rfl

theorem execReti_of_pop16 (h : pop16 s = .ok v t) (hc : t.cycles = s.cycles) :
    execReti s = .next { t with regs := { t.regs with pc := v }, ime := true, cycles := s.cycles + 4 } := by
  rw [execReti, returnFromInterrupt, h, ← hc]
  rfl

theorem popFaultEnds_of_exec {f : Addr → State → Res Unit} (h : exec i s = ((pop16 s).bind f).finish k) :
    popFaultEnds i s :=
  fun _ ht => h.trans (bind_finish_of_stop ht)

end Forms

/-! ## The obligations -/

/-- Settles O40: a jump is its target and its cost by definition, conditional or not, and a relative target is the
rule's own sum by `add_sext16`. -/
theorem jumps : Obligations.Jumps := by
  refine ⟨fun _ => ⟨rfl, rfl, rfl, rfl⟩, fun s => ⟨fun lo hi => ⟨?_, rfl⟩, rfl, rfl, fun cc lo hi => ⟨?_, ?_⟩,
    fun e => ?_⟩⟩
  · exact congrArg (0xC3 :: ·) (immBytes_append hi lo)
  · rw [encode_jpCc, immBytes_append]
  · rw [exec_jpCc, jpIf]
    split <;> rfl
  · dsimp only
    rw [← add_sext16]
    refine ⟨rfl, rfl, fun cc => ⟨encode_jrCc cc e, ?_⟩⟩
    rw [exec_jrCc, jrIf]
    split <;> rfl

/-- Settles O41: CALL, a taken CALL cc and RST are each a `callTo`, whose push completes by `push16_pushes`. -/
theorem callsAndRestarts : Obligations.CallsAndRestarts := by
  refine fun s => ⟨fun hf => ?_, fun cc n h => exec_callCc_notTaken n h, fun lo hi => ⟨?_, fun cc => ?_⟩, encode_rst,
    fun n => ⟨pushFaultEnds_of_callTo rfl, fun cc h => pushFaultEnds_of_callTo (exec_callCc_taken n h)⟩,
    fun y => pushFaultEnds_of_callTo (exec_rst y s)⟩
  · obtain ⟨t, hpushes, hok, hcycles⟩ := push16_pushes hf
    have hcall := fun n k => callTo_of_push16 n k hok hcycles
    exact ⟨t, hpushes, fun n => hcall n 6, fun cc n h => (exec_callCc_taken n h).trans (hcall n 6),
      fun y => (exec_rst y s).trans (hcall _ 4)⟩
  · exact congrArg (0xCD :: ·) (immBytes_append hi lo)
  · rw [encode_callCc, immBytes_append]

/-- Settles O42: RET and a taken RET cc are each a `returnFrom`, whose pop completes by `pop16_ok`; RETI is the same pop
with IME set in the same step. -/
theorem returns : Obligations.Returns := by
  refine fun s => ⟨fun hf => ?_, fun cc h => exec_retCc_notTaken h, rfl, rfl, encode_retCc,
    popFaultEnds_of_exec rfl, popFaultEnds_of_exec rfl, fun cc h => popFaultEnds_of_exec (exec_retCc_taken h)⟩
  obtain ⟨v, t, hpops, hok, -, hcycles⟩ := pop16_ok hf
  have hret := fun k => returnFrom_of_pop16 k hok hcycles
  exact ⟨v, t, hpops, hret 4, fun cc h => (exec_retCc_taken h).trans (hret 5), execReti_of_pop16 hok hcycles⟩

end Sys2Proof.Machine
end

section
/-! PROOFS. NOP, HALT, STOP, DI and EI (spec 46_misc.md): which way HALT goes, by the pending set as the rules write it,
which way STOP goes by the mode, and the obligations on them. -/

namespace Sys2Proof.Machine

variable {s : State}

/-! ## HALT halts, or arms the HALT bug (R591) -/

theorem haltOrBug_of_ime_or_none_pending (h : s.ime = true ∨ s.ie &&& s.iflag.zeroExtend 8 &&& 0x1F = 0) :
    s.haltOrBug = { s with mode := .halted } := by
  rw [pending_eq_zero_iff] at h
  exact if_pos (by simpa using h)

theorem haltOrBug_of_pending (hime : s.ime = false) (h : s.ie &&& s.iflag.zeroExtend 8 &&& 0x1F ≠ 0) :
    s.haltOrBug = { s with haltBug := true } := by
  rw [Ne, pending_eq_zero_iff] at h
  exact if_neg (by simpa [hime] using h)

theorem exec_halt (s : State) : exec .halt s = .next (s.haltOrBug.addCycles 1) := rfl

/-! ## STOP by the mode (R592) -/

theorem exec_stop_of_not_cgb (b : Byte) (h : s.params.cgbMode = false) :
    exec (.stop b) s = .next { s with mode := .stopped, cycles := s.cycles + 1 } :=
  if_neg (Bool.eq_false_iff.mp h)

theorem exec_stop_of_cgb (b : Byte) (h : s.params.cgbMode = true) :
    exec (.stop b) s = .next (s.raised (.unmodelledStop 0x10 (s.regs.pc - 2))) :=
  if_pos h

/-! ## The obligations -/

/-- Settles O43: NOP, DI and EI are their next states by definition, and HALT goes the way `haltOrBug` goes. -/
theorem nopHaltDiEi : Obligations.NopHaltDiEi := by
  refine ⟨⟨rfl, rfl, rfl, fun _ => ⟨rfl, rfl, rfl⟩⟩, rfl, fun s => ⟨fun h => ?_, fun hime h => ?_⟩⟩
  · rw [exec_halt, haltOrBug_of_ime_or_none_pending h]
    rfl
  · rw [exec_halt, haltOrBug_of_pending hime h]
    rfl

/-- Settles O44: the one branch of STOP is on CGB_MODE, and neither way reads the second byte. -/
theorem stopEntersStoppedMode : Obligations.StopEntersStoppedMode :=
  fun b _ => ⟨rfl, exec_stop_of_not_cgb b, exec_stop_of_cgb b⟩

end Sys2Proof.Machine
end

section
/-! PROOFS. The DMA bus conflict (spec 60_exceptions.md R654): a conflicting CPU transaction never reaches the bus, and
each operation that begins with one ends in its fault. -/

namespace Sys2Proof.Machine

variable {s : State} {a : Addr}

/-! ## The transaction itself -/

theorem memRead_of_conflicts (h : s.conflicts a) : memRead a s = .stop (s.raised (.dmaBusConflict a .read)) :=
  if_pos ((conflicts_iff s a).2 h)

theorem memWrite_of_conflicts (v : Byte) (h : s.conflicts a) :
    memWrite a v s = .stop (s.raised (.dmaBusConflict a .write)) :=
  if_pos ((conflicts_iff s a).2 h)

/-! ## The fetches and the stack (R13, R219, R220) -/

theorem fetch8_of_conflicts (h : s.conflicts s.regs.pc) :
    fetch8 s = .stop (s.raised (.dmaBusConflict s.regs.pc .read)) :=
  bind_of_stop (memRead_of_conflicts h)

theorem fetchOpcode_of_conflicts (h : s.conflicts s.regs.pc) :
    fetchOpcode s = .stop (s.raised (.dmaBusConflict s.regs.pc .read)) :=
  bind_of_stop (memRead_of_conflicts h)

theorem popByte_of_conflicts (h : s.conflicts s.regs.sp) :
    popByte s = .stop (s.raised (.dmaBusConflict s.regs.sp .read)) :=
  bind_of_stop (memRead_of_conflicts h)

/-- A push moves SP before its write, so the faulted state has SP moved; the move does not touch the sequencer. -/
theorem pushByte_of_conflicts (v : Byte) (h : s.conflicts (s.regs.sp - 1)) :
    pushByte v s = .stop ((s.setSp (s.regs.sp - 1)).raised (.dmaBusConflict (s.regs.sp - 1) .write)) :=
  memWrite_of_conflicts (s := s.setSp (s.regs.sp - 1)) v h

/-! ## The obligation -/

/-- Settles O9: the two hypotheses are `State.conflicts` and its negation, and each operation has its lemma there. -/
theorem dmaBusConflict : Obligations.DmaBusConflict := by
  refine fun s a v => ⟨fun hactive houtside => ?_, fun h => ?_⟩
  · have hc : s.conflicts a := ⟨hactive, houtside⟩
    refine ⟨memRead_of_conflicts hc, memWrite_of_conflicts v hc, ?_, ?_, ?_⟩
    · rintro rfl
      exact ⟨fetchOpcode_of_conflicts hc, fetch8_of_conflicts hc⟩
    · rintro rfl
      exact popByte_of_conflicts hc
    · rintro rfl
      exact pushByte_of_conflicts v hc
  · have hc : ¬s.conflicts a := fun ⟨hactive, houtside⟩ => h.elim (by simp [hactive]) houtside
    exact ⟨memRead_of_not_conflicts hc, memWrite_of_not_conflicts hc⟩

end Sys2Proof.Machine
end

section
/-! PROOFS. The step of a stopped and of a halted core (spec 60_exceptions.md R620, R655, 70_reset_and_hazards.md
R720). -/

namespace Sys2Proof.Machine

variable {s : State}

theorem step_eq_cpuStep (h : s.mode ≠ .faulted) : step s = cpuStep s.takeEnv := if_neg h

/-! ## The CPU's step by run mode -/

theorem cpuStep_of_stopped (h : s.mode = .stopped) : cpuStep s = stoppedStep s := by
  rw [cpuStep, h]

theorem cpuStep_of_halted_of_none_pending (h : s.mode = .halted) (hp : s.pending = 0) :
    cpuStep s = haltedStep s := by
  rw [cpuStep, h]
  exact if_pos hp

theorem cpuStep_of_halted_of_pending (h : s.mode = .halted) (hp : s.pending ≠ 0) : cpuStep s = activeStep s.awake := by
  rw [cpuStep, h]
  exact if_neg hp

/-- Where the environment makes no move, the woken core's step is its active step: the empty entry of the schedule is
used up by that boundary (log entry 5). -/
theorem step_awake_of_no_moves (s : State) :
    step { s with mode := .running, schedule := [] :: s.schedule } = activeStep s.awake :=
  step_of_running nofun rfl

/-! ## The obligation -/

/-- Settles O49: the three cases of the CPU's step, the pending set as the rules write it; a halted core that wakes and
the running core both take the active step of the woken state. -/
theorem idleAndWake : Obligations.IdleAndWake := by
  refine fun s hs => ⟨fun h => ?_, fun h hp => ?_, fun h hp => ?_⟩ <;> rw [step_eq_cpuStep hs]
  · exact cpuStep_of_stopped h
  · exact cpuStep_of_halted_of_none_pending h ((pending_eq_zero_iff _).1 hp)
  · rw [step_awake_of_no_moves]
    exact cpuStep_of_halted_of_pending h (mt (pending_eq_zero_iff _).2 hp)

end Sys2Proof.Machine
end

section
/-! PROOFS. The state right after reset: its registers and flags, and the bank of the switchable ROM window on every
variant (spec 70_reset_and_hazards.md R701 to R709, 20_memory.md R211, R225). -/

namespace Sys2Proof.Machine

/-! ## IF at reset (R211, R704) -/

/-- The bits of `IF_RESET` that IF does not store are those that read as ones. -/
theorem iflag_readback_extract (v : Byte) : 0xE0 ||| (v.extractLsb' 0 5).zeroExtend 8 = 0xE0 ||| v := by
  revert v; decide

theorem busRead_iflag_resetWith (p : Params) (boot : BootRegs) (ifReset : Byte) (mem : InitialMemory) (cart : Cart)
    (image : Memory) :
    busRead 0xFF0F (State.resetWith p boot ifReset mem cart image)
      = .ok (0xE0 ||| ifReset) (State.resetWith p boot ifReset mem cart image) := by
  rw [(access_iflag 0 (locate_iflag _)).1, ← iflag_readback_extract ifReset]
  rfl

/-! ## The switchable window at reset (R225, R707) -/

/-- MBC1, MBC2 and MBC3 read their bank number 0 as 1, MBC5 starts with 1, and NoMBC has no other bank. -/
theorem switchBank_atReset (v : Variant) (rtc : RtcInitial) : (Mbc.atReset v rtc).switchBank = 1 := by
  cases v <;> rfl

/-- Bank 1 stands in the switchable window at its own place in the image, with a controller or without one. -/
theorem romOffset_switchBank_one {c : Cart} {n : Nat} (hb : c.mbc.switchBank = 1) (hr : 2 ≤ c.romBanks)
    (h : 0x4000 ≤ n) : c.romOffset n = n := by
  by_cases hn : c.mbc = .noMbc
  · exact romOffset_noMbc hn
  · rw [romOffset_switch rfl hn (by omega), hb, Nat.mod_eq_of_lt (by omega)]
    omega

theorem busRead_switchWindow_atReset {v : Variant} {rtc : RtcInitial} {a : Addr} {s : State}
    (hm : s.cart.mbc = Mbc.atReset v rtc) (hr : 2 ≤ s.cart.romBanks) (h : 0x4000 ≤ a.toNat) (h' : a.toNat < 0x8000) :
    busRead a s = .ok (s.rom.read a.toNat) s := by
  have hb : s.cart.mbc.switchBank = 1 := by rw [hm, switchBank_atReset]
  rw [busRead_rom h', romOffset_switchBank_one hb hr h]

/-! ## The obligation -/

/-- Settles O6: the fields and the defaults are the reset state's own definition; IF is read back through the bus, and
the switchable window is at bank 1 on every variant. -/
theorem resetValues : Obligations.ResetValues := by
  refine ⟨⟨fun p boot ifReset mem cart image => ?_, rfl, rfl, rfl⟩,
    fun rtc => ⟨rfl, rfl, rfl, rfl, rfl, fun v a s => busRead_switchWindow_atReset⟩⟩
  exact ⟨rfl, rfl, rfl, rfl, rfl, rfl, rfl, rfl, rfl, busRead_iflag_resetWith p boot ifReset mem cart image, rfl, rfl,
    rfl⟩

end Sys2Proof.Machine
end

section
/-! PROOFS. Decoding and encoding are inverse to each other (spec 30_encoding.md R300 to R311). -/

namespace Sys2Proof

/-! ## What is decoded is well-formed (R595) -/

theorem wf_iff_ne_prefixCb (i : Instr) : i.wf = true ↔ ∀ op2, i ≠ .prefixCb op2 := by
  cases i
  case prefixCb op2 => exact iff_of_false nofun fun h => h op2 rfl
  all_goals exact iff_of_true rfl nofun

theorem wf_decodeCb (op2 : Byte) : (decodeCb op2).wf = true := by
  revert op2; decide

/-- An entry of the primary table encodes to its own opcode, so only that of 0xCB is ill-formed. -/
theorem wf_decodePrimary {op : Byte} (b1 b2 : Byte) (h : op ≠ prefixByte) : (decodePrimary op b1 b2).wf = true := by
  refine (wf_iff_ne_prefixCb _).2 fun op2 e => h ?_
  have hop : op :: operandBytes op b1 b2 = [prefixByte, op2] := by rw [← encode_decodePrimary, e]; rfl
  exact (List.cons.inj hop).1

theorem wf_decodeOp (op b1 b2 : Byte) : (decodeOp op b1 b2).wf = true := by
  unfold decodeOp
  split
  · exact wf_decodeCb b1
  · exact wf_decodePrimary b1 b2 ‹_›

/-! ## What a byte sequence decodes to (R304) -/

/-- A sequence that decodes is its opcode's entry, of the length that the opcode decides. -/
theorem decode_ok_cases {bytes rest : List Byte} {i : Instr} (h : decode bytes = .ok i rest) :
    (∃ op, opLength op = 1 ∧ bytes = op :: rest ∧ i = decodeOp op 0 0)
    ∨ (∃ op b1, opLength op = 2 ∧ bytes = op :: b1 :: rest ∧ i = decodeOp op b1 0)
    ∨ (∃ op b1 b2, opLength op = 3 ∧ bytes = op :: b1 :: b2 :: rest ∧ i = decodeOp op b1 b2) := by
  unfold decode at h
  split at h
  · cases h
  · split at h
    · cases h; exact .inl ⟨_, ‹_›, rfl, rfl⟩
    · cases h; exact .inr (.inl ⟨_, _, ‹_›, rfl, rfl⟩)
    · cases h; exact .inr (.inr ⟨_, _, _, ‹_›, rfl, rfl⟩)
    · cases h

/-- Settles O2: the entry read encodes to exactly the bytes that its opcode's length takes. -/
theorem encodeOfDecode : Obligations.EncodeOfDecode := by
  intro bytes rest i h
  rcases decode_ok_cases h with ⟨op, hl, rfl, rfl⟩ | ⟨op, b1, hl, rfl, rfl⟩ | ⟨op, b1, b2, hl, rfl, rfl⟩
  all_goals
    refine ⟨wf_decodeOp _ _ _, ?_⟩
    rw [encode_decodeOp, operandBytes, hl]
  · rfl
  · rfl
  · exact congrArg (op :: · ++ rest) (Machine.immBytes_append b2 b1).symm

/-- The decoder on each constructor's bytes, an immediate word put together from its two. -/
theorem decode_encode {i : Instr} (rest : List Byte) (h : i.wf = true) : decode (encode i ++ rest) = .ok i rest := by
  cases i
  case prefixCb op2 => cases h
  case ldBcN16 n | ldIndN16Sp n | ldDeN16 n | ldHlN16 n | ldSpN16 n | jpNzN16 n | jpN16 n | callNzN16 n | jpZN16 n
      | callZN16 n | callN16 n | jpNcN16 n | callNcN16 n | jpCN16 n | callCN16 n | ldIndN16A n | ldAIndN16 n =>
    conv_rhs => rw [← Machine.hi8_append_lo8 n]
    rfl
  all_goals rfl

/-- Settles O1: every constructor but `prefixCb` by `decode_encode`. -/
theorem decodeOfEncode : Obligations.DecodeOfEncode := fun _ rest h => decode_encode rest h

/-- Settles O4: each word is run through the decoder. -/
theorem sampleWords : Obligations.SampleWords := by
  unfold Obligations.SampleWords
  decide

end Sys2Proof
end

section
/-! PROOFS. The register file: a pair is its two halves, and what each write leaves alone (spec 10_state.md R100,
R101). -/

namespace Sys2Proof.Machine

namespace Regs

variable (g : Regs)

theorem r8_setR8 (r r' : R8) (v : Byte) : (g.setR8 r v).r8 r' = if r' = r then v else g.r8 r' := by
  cases r <;> cases r' <;> rfl

theorem setR8_others (r : R8) (v : Byte) :
    (g.setR8 r v).f = g.f ∧ (g.setR8 r v).sp = g.sp ∧ (g.setR8 r v).pc = g.pc := by
  cases r <;> exact ⟨rfl, rfl, rfl⟩

/-- A pair written to its two halves reads back whole. -/
theorem pair_setPair_same (p : Pair) (v : Addr) : (g.setPair p v).pair p = v := by
  cases p
  case sp => rfl
  all_goals exact hi8_append_lo8 v

theorem pair_setPair_other {p p' : Pair} (h : p' ≠ p) (v : Addr) : (g.setPair p v).pair p' = g.pair p' := by
  cases p <;> cases p'
  case bc.bc | de.de | hl.hl | sp.sp => exact absurd rfl h
  all_goals rfl

theorem setPair_others (p : Pair) (v : Addr) :
    (g.setPair p v).a = g.a ∧ (g.setPair p v).f = g.f ∧ (g.setPair p v).pc = g.pc := by
  cases p <;> exact ⟨rfl, rfl, rfl⟩

theorem stackPair_setStackPair_same (p : StackPair) (v : Addr) : (g.setStackPair p v).stackPair p = v := by
  cases p <;> exact hi8_append_lo8 v

theorem stackPair_setStackPair_other {p p' : StackPair} (h : p' ≠ p) (v : Addr) :
    (g.setStackPair p v).stackPair p' = g.stackPair p' := by
  cases p <;> cases p'
  case bc.bc | de.de | hl.hl => exact absurd rfl h
  all_goals rfl

theorem setStackPair_others (p : StackPair) (v : Addr) : (g.setStackPair p v).a = g.a ∧ (g.setStackPair p v).f = g.f
    ∧ (g.setStackPair p v).sp = g.sp ∧ (g.setStackPair p v).pc = g.pc := by
  cases p <;> exact ⟨rfl, rfl, rfl, rfl⟩

end Regs

/-- Settles O5: a pair is a join of two bytes, and a read after a write of the same or of another register or pair has
its lemma above. -/
theorem registerHalves : Obligations.RegisterHalves := by
  refine ⟨fun g => ⟨toNat_join .., toNat_join .., toNat_join .., toNat_join ..⟩,
    fun g r r' v => ⟨g.r8_setR8 r r' v, g.setR8_others r v⟩, fun g p p' v => ⟨?_, g.setPair_others p v⟩,
    fun g p p' v => ⟨?_, g.setStackPair_others p v⟩⟩ <;> split
  · subst p'; exact g.pair_setPair_same p v
  · exact g.pair_setPair_other ‹_› v
  · subst p'; exact g.stackPair_setStackPair_same p v
  · exact g.stackPair_setStackPair_other ‹_› v

end Sys2Proof.Machine
end

section
/-! PROOFS. CPU transactions, `Push16` and `Pop16`: what a fault leaves, exactly where one is raised, and the frame of a
bus write (spec 20_memory.md R201, R202, R219, R220, 60_exceptions.md R601, R602). -/

namespace Sys2Proof.Machine

variable {s t u : State} {a b : Addr} {v w : Byte}

/-! ## What a fault leaves (R600) -/

/-- A bus write that faults changes nothing but the mode and the record, and the DMA register where its byte names a
source page without meaning (R653). -/
theorem busWrite_stop_cases (h : busWrite a v s = .stop t) :
    ∃ k, t = s.raised k ∨ (a = 0xFF46 ∧ t = State.raised { s with dmaReg := v } k) := by
  unfold busWrite at h
  cases hl : s.locate a <;> rw [hl] at h
  case echoFault => cases h; exact ⟨_, .inl rfl⟩
  case prohibited =>
    simp only [prohibitedWrite] at h
    split at h <;> cases h
    exact ⟨_, .inl rfl⟩
  case dma =>
    simp only [startDma] at h
    split at h <;> cases h
    exact ⟨_, .inr ⟨(locate_dma_iff s a).1 hl, rfl⟩⟩
  case io =>
    simp only [ioWrite] at h
    split at h <;> cases h
    exact ⟨_, .inl rfl⟩
  all_goals cases h

theorem memWrite_stop_cases (h : memWrite a v s = .stop t) :
    ∃ k, t = s.raised k ∨ (a = 0xFF46 ∧ t = State.raised { s with dmaReg := v } k) := by
  unfold memWrite at h
  split at h
  · cases h; exact ⟨_, .inl rfl⟩
  · exact busWrite_stop_cases h

/-- The state is a faulted one with its record. -/
def State.isRaised (s : State) : Prop := s.mode = .faulted ∧ s.fault.isSome = true

theorem memRead_isRaised (h : memRead a s = .stop t) : t.isRaised := by
  rcases memRead_cases a s with ⟨v, u, e, -⟩ | ⟨k, e⟩ <;> rw [e] at h <;> cases h
  exact ⟨rfl, rfl⟩

theorem memWrite_isRaised (h : memWrite a v s = .stop t) : t.isRaised := by
  obtain ⟨k, rfl | ⟨-, rfl⟩⟩ := memWrite_stop_cases h <;> exact ⟨rfl, rfl⟩

/-- Where a sequence of two operations stops, one of the two did. -/
theorem bind_eq_stop {α β : Type} {r : Res α} {f : α → State → Res β} (h : r.bind f = .stop t) :
    r = .stop t ∨ ∃ x u, r = .ok x u ∧ f x u = .stop t := by
  cases r with
  | ok x u => exact .inr ⟨x, u, rfl, h⟩
  | stop u => cases h; exact .inl rfl

theorem push16_isRaised {x : Addr} (h : push16 x s = .stop t) : t.isRaised := by
  rcases bind_eq_stop h with h | ⟨-, u, -, h⟩ <;> exact memWrite_isRaised h

theorem popByte_isRaised (h : popByte s = .stop t) : t.isRaised := by
  rcases bind_eq_stop h with h | ⟨v, u, -, h⟩
  · exact memRead_isRaised h
  · cases h

theorem pop16_isRaised (h : pop16 s = .stop t) : t.isRaised := by
  rcases bind_eq_stop h with h | ⟨lo, u, -, h⟩
  · exact popByte_isRaised h
  · rcases bind_eq_stop h with h | ⟨hi, w, -, h⟩
    · exact popByte_isRaised h
    · cases h

/-! ## Where `Push16` and `Pop16` fault (R219, R220) -/

/-- A completed write of the DMA register has started a transfer (R651). -/
theorem writes_dma_active (h : s.writes 0xFF46 v t) : t.dma.active = true := by
  have hb : busWrite 0xFF46 v s = .ok () t := by
    rw [← memWrite_of_not_conflicts fun hc => (memWrite_ok_iff _ _ _).1 ⟨t, h.1⟩ (.inl (.inl hc))]
    exact h.1
  rw [(access_dma v ((locate_dma_iff s _).2 rfl)).2] at hb
  unfold startDma at hb
  split at hb <;> cases hb
  rfl

/-- In high RAM there is no conflict, whatever the sequencer does. -/
theorem writeFaults_congr_of_hram (hp : t.params = s.params) (hb : 0xFF80 ≤ b.toNat ∧ b.toNat ≤ 0xFFFE) :
    t.writeFaults b w ↔ s.writeFaults b w := by
  have hc : ∀ r : State, ¬r.conflicts b := fun _ h => h.2 hb
  simp only [State.writeFaults, State.readFaults, hc, false_or, hp]

/-- After the first of two writes the second faults wherever the pair raises a fault. -/
theorem writePair_second_faults (h : s.writes a v t) (hf : s.writePairFaults a v b w) : t.writeFaults b w := by
  have hfst : ¬s.writeFaults a v := (memWrite_ok_iff a v s).1 ⟨t, h.1⟩
  rcases hf.resolve_left hfst with hf | ⟨rfl, hb⟩
  · by_cases ha : a = 0xFF46
    · by_cases hb : 0xFF80 ≤ b.toNat ∧ b.toNat ≤ 0xFFFE
      · exact (writeFaults_congr_of_hram (writes_params h) hb).2 hf
      · exact .inl (.inl ⟨writes_dma_active (ha ▸ h), hb⟩)
    · exact (writeFaults_congr (writes_params h) (by rw [writes_dma ha h]) b w).2 hf
  · exact .inl (.inl ⟨writes_dma_active h, hb⟩)

theorem push16_stop {x : Addr} (h : s.pushFaults x) : ∃ t, push16 x s = .stop t := by
  by_cases hf : (s.setSp (s.regs.sp - 1)).writeFaults (s.regs.sp - 1) (hi8 x)
  · obtain ⟨t, e⟩ := memWrite_stop hf
    exact ⟨t, bind_of_stop e⟩
  · obtain ⟨u, hu⟩ := memWrite_writes hf
    have hsp : u.regs.sp - 1 = s.regs.sp - 2 := by rw [writes_regs hu]; exact sub_one_sub_one _
    have h2 : u.writeFaults (u.regs.sp - 1) (lo8 x) := hsp ▸ writePair_second_faults hu h
    obtain ⟨t, e⟩ := memWrite_stop (s := u.setSp (u.regs.sp - 1)) h2
    refine ⟨t, ?_⟩
    unfold push16 pushByte
    rw [hu.1]
    exact e

theorem push16_stop_iff (x : Addr) : (∃ t, push16 x s = .stop t) ↔ s.pushFaults x := by
  refine ⟨fun ⟨t, h⟩ => ?_, push16_stop⟩
  by_contra hf
  obtain ⟨u, t', -, -, h', -⟩ := push16_ok hf
  rw [h] at h'; cases h'

theorem pop16_stop (h : s.popFaults) : ∃ t, pop16 s = .stop t := by
  by_cases hf : s.readFaults s.regs.sp
  · obtain ⟨r, e⟩ := memRead_stop hf
    exact ⟨_, bind_of_stop (bind_of_stop e)⟩
  · obtain ⟨v, u, hu⟩ := memRead_reads hf
    have hsp : u.regs.sp + 1 = s.regs.sp + 1 := by rw [reads_regs hu]
    have h2 : u.readFaults (u.regs.sp + 1) := by
      rw [hsp, readFaults_congr (reads_params hu) (by rw [reads_dma hu])]
      exact h.resolve_left hf
    obtain ⟨r, e⟩ := memRead_stop (s := u.setSp (u.regs.sp + 1)) h2
    refine ⟨(u.setSp (u.regs.sp + 1)).raised r, ?_⟩
    unfold pop16
    rw [popByte, hu.1]
    show (popByte (u.setSp (u.regs.sp + 1))).bind _ = _
    exact bind_of_stop (bind_of_stop e)

theorem pop16_stop_iff : (∃ t, pop16 s = .stop t) ↔ s.popFaults := by
  refine ⟨fun ⟨t, h⟩ => ?_, pop16_stop⟩
  by_contra hf
  obtain ⟨v, t', -, h', -⟩ := pop16_ok hf
  rw [h] at h'; cases h'

/-! ## The obligations -/

/-- Settles O10: a transaction that faults by `memRead_stop` and `memWrite_stop_cases`, and the stack by the faults of
its two transactions. -/
theorem transactionCompletes : Obligations.TransactionCompletes := by
  refine fun s a v => ⟨memRead_reads, fun h => ?_, memWrite_writes, fun h => ?_,
    fun x => ⟨push16_stop_iff x, pop16_stop_iff, fun _ => push16_isRaised, fun _ => pop16_isRaised⟩⟩
  · exact memRead_stop h
  · obtain ⟨t, e⟩ := memWrite_stop h
    obtain ⟨k, rfl | ⟨ha, rfl⟩⟩ := memWrite_stop_cases e
    · exact ⟨k, .inl e⟩
    · exact ⟨k, .inr ⟨ha, e⟩⟩

/-- Settles O14: the two frames of a completed bus write, by target. -/
theorem busWriteFrame : Obligations.BusWriteFrame := by
  intro s t a v h
  refine ⟨busWrite_readsAsBefore h, ?_⟩
  rcases busWrite_cases a v s with ⟨u, e, hu⟩ | ⟨k, e⟩ | ⟨k, e⟩ <;> rw [e] at h <;> cases h
  exact hu

/-- Plain storage is no register, and neither the echo nor the prohibited range under a policy that faults. -/
theorem not_writeFaults_of_plain (hc : ¬s.conflicts a) (hp : s.plain a = true) (v : Byte) : ¬s.writeFaults a v := by
  have hl : s.locate a ≠ .echoFault ∧ s.locate a ≠ .prohibited ∧ s.locate a ≠ .io ∧ s.locate a ≠ .dma := by
    refine ⟨?_, ?_, ?_, ?_⟩ <;> intro e <;> rw [State.plain, e] at hp <;> cases hp
  obtain ⟨hecho, hprohibited, hio, hdma⟩ := hl
  rintro ((h | h | h) | h | h)
  · exact hc h
  · exact hecho ((locate_echoFault_iff s a).2 h)
  · exact hprohibited ((locate_prohibited_iff s a).2 h.2)
  · exact hio (locate_io_of_cgbRegister h.2)
  · exact hdma ((locate_dma_iff s a).2 h.1)

theorem ne_dma_of_plain (hp : s.plain a = true) : a ≠ 0xFF46 := by
  rintro rfl
  rw [State.plain, (locate_dma_iff s _).2 rfl] at hp
  cases hp

/-- `Pop16` of two bytes that the core stores. -/
theorem pop16_of_peek {lo hi : Byte} (hc1 : ¬s.conflicts s.regs.sp) (hc2 : ¬s.conflicts (s.regs.sp + 1))
    (h1 : s.peek s.regs.sp = some lo) (h2 : s.peek (s.regs.sp + 1) = some hi) :
    pop16 s = .ok (hi ++ lo) (s.setSp (s.regs.sp + 2)) := by
  have e2 : memRead (s.regs.sp + 1) (s.setSp (s.regs.sp + 1)) = .ok hi (s.setSp (s.regs.sp + 1)) :=
    memRead_of_peek hc2 h2
  unfold pop16 popByte
  rw [memRead_of_peek hc1 h1]
  dsimp only [Res.bind, State.setSp_regs]
  rw [e2]
  dsimp only [State.setSp_regs]
  rw [add_one_add_one]
  rfl

/-- Settles O15: `push16_pushes` leaves the two bytes where `pop16_of_peek` reads them, and no write to plain storage
starts a transfer. -/
theorem pushThenPop : Obligations.PushThenPop := by
  intro s v hc1 hc2 hp1 hp2
  have hf : ¬s.pushFaults v := by
    rintro (h | h | h)
    · exact not_writeFaults_of_plain hc1 hp1 _ h
    · exact not_writeFaults_of_plain hc2 hp2 _ h
    · exact ne_dma_of_plain hp1 h.1
  obtain ⟨t, ⟨⟨u, hu, ht⟩, hregs, hhi, hlo⟩, hpush, -⟩ := push16_pushes hf
  have hdma : t.dma = s.dma := by
    have hfst := writes_dma (ne_dma_of_plain hp1) hu
    have hsnd := writes_dma (ne_dma_of_plain hp2) ht
    exact hsnd.trans hfst
  have hcong : ∀ a, ¬s.conflicts a → ¬t.conflicts a := fun a => by unfold State.conflicts; rw [hdma]; exact id
  have hsp : t.regs.sp = s.regs.sp - 2 := by rw [hregs]
  have hsp1 : t.regs.sp + 1 = s.regs.sp - 1 := by rw [hsp]; bv_omega
  refine ⟨t, hpush, hregs, hhi hp1, hlo hp2, ?_⟩
  rw [pop16_of_peek (hcong _ (hsp ▸ hc2)) (hcong _ (hsp1 ▸ hc1)) (hsp ▸ hlo hp2) (hsp1 ▸ hhi hp1), hi8_append_lo8]
  have hsp2 : t.regs.sp + 2 = s.regs.sp := by rw [hsp]; bv_omega
  rw [hsp2, State.setSp, hregs]

end Sys2Proof.Machine
end

section
/-! PROOFS. MBC1: its register writes, its ROM windows and its RAM window (spec 20_memory.md R241 to R243). -/

namespace Sys2Proof.Machine

variable {n off : Nat} {c : Cart} {s : State} {a : Addr} (v : Byte)

namespace Mbc1

variable (r : Mbc1)

theorem write_ramEnable (h : n < 0x2000) : r.write n v = { r with ramEnable := decide (v.toNat % 16 = 0xA) } := by
  rw [Mbc1.write, if_pos h, lowNibbleIsA_eq]

theorem write_bank1 (h : 0x2000 ≤ n) (h' : n < 0x4000) : r.write n v = { r with bank1 := v.truncate 5 } := by
  rw [Mbc1.write, if_neg (by omega), if_pos h', extractLsb'_zero_eq v (by decide)]

theorem write_bank2 (h : 0x4000 ≤ n) (h' : n < 0x6000) : r.write n v = { r with bank2 := v.truncate 2 } := by
  rw [Mbc1.write, if_neg (by omega), if_neg (by omega), if_pos h', extractLsb'_zero_eq v (by decide)]

theorem write_mode (h : 0x6000 ≤ n) : r.write n v = { r with mode := v.getLsbD 0 } := by
  rw [Mbc1.write, if_neg (by omega), if_neg (by omega), if_neg (by omega)]

end Mbc1

theorem busWrite_mbc1 {r : Mbc1} (hm : s.cart.mbc = .mbc1 r) (h : a.toNat < 0x8000) :
    busWrite a v s = .ok () { s with cart := { s.cart with mbc := .mbc1 (r.write a.toNat v) } } := by
  rw [busWrite_rom v h]
  simp only [State.writeMbc, Cart.writeReg, Cart.rumbleEvents, hm, List.append_nil]

theorem busRead_mbc1_fixed {r : Mbc1} (hm : s.cart.mbc = .mbc1 r) (h : a.toNat < 0x4000) :
    busRead a s = .ok
      (s.rom.read (((if r.mode = true then r.bank2.toNat * 32 else 0) % s.cart.romBanks) * 0x4000 + a.toNat)) s := by
  rw [busRead_rom (by omega), romOffset_fixed hm nofun h]
  rfl

theorem ramTarget_mbc1 {r : Mbc1} (hm : c.mbc = .mbc1 r) : c.ramTarget off =
    if r.ramEnable then c.ramByte (if r.mode then r.bank2.toNat else 0) off else .openBus .ramDisabled := by
  unfold Cart.ramTarget; rw [hm]

/-- Settles O17: a register write by its range, the two ROM windows by the bank each maps, and the RAM window by
`ramEnable` and the bank count. -/
theorem mbc1Mapping : Obligations.Mbc1Mapping := by
  intro s r a v hm
  dsimp only
  refine ⟨fun h => ?_, fun h h' => ?_, fun h h' => ?_, fun h h' => ?_, fun h => busRead_mbc1_fixed hm (by omega),
    fun h h' => ?_, fun h h' => ⟨fun he => ?_, fun he h0 => ?_, fun he h0 => ?_⟩⟩
  · rw [busWrite_mbc1 v hm (by omega), r.write_ramEnable v (by omega)]
  · rw [busWrite_mbc1 v hm (by omega), r.write_bank1 v h (by omega)]
  · rw [busWrite_mbc1 v hm (by omega), r.write_bank2 v h (by omega)]
  · rw [busWrite_mbc1 v hm (by omega), r.write_mode v h]
  · rw [busRead_switchBank hm nofun h h', Mbc.switchBank, zeroToOne_toNat]
  all_goals
    have ht := ramTarget_mbc1 (off := a.toNat - 0xA000) hm
    rw [he] at ht
  · exact ramWindow_openBus v h h' ht
  · exact ramWindow_absent v h h' ht h0
  · exact ramWindow_bank v h h' ht h0

end Sys2Proof.Machine
end

section
/-! PROOFS. What a bus transaction can do to each part of the state (spec 20_memory.md R201, R202), and which offsets an
address is decoded to (R120, R205, R209). -/

namespace Sys2Proof.Machine

variable {s t u : State} {a : Addr} {v w : Byte}

/-! ## A store after a write -/

/-- A store is as it was, or holds `w` at an offset that `L` allows. -/
def Memory.Written (L : Nat → Prop) (w : Byte) (m m' : Memory) : Prop := m' = m ∨ ∃ off, L off ∧ m' = m.write off w

namespace Memory.Written

variable {L : Nat → Prop} {m m' : Memory} {n : Nat} (h : Memory.Written L w m m')
include h

theorem wf (hm : m.wf) : m'.wf := by
  obtain rfl | ⟨off, -, rfl⟩ := h
  · exact hm
  · exact Memory.wf_write off w hm

theorem below (hL : ∀ off, L off → off < n) (hm : m.below n) : m'.below n := by
  obtain rfl | ⟨off, hoff, rfl⟩ := h
  · exact hm
  · exact Memory.below_write w (hL off hoff) hm

theorem nibbles (hw : w.toNat < 16) (hm : ∀ c ∈ m, c.2.toNat < 16) : ∀ c ∈ m', c.2.toNat < 16 := by
  obtain rfl | ⟨off, -, rfl⟩ := h
  · exact hm
  · intro c hc
    rcases Memory.mem_write hc with ⟨rfl, -⟩ | ⟨hc, -⟩
    · exact hw
    · exact hm c hc

end Memory.Written

/-! ## Cycles, draws and events (R14, R113, R124) -/

/-- The counters do not fall, and the history is kept with entries appended. -/
structure State.Appends (s t : State) : Prop where
  cycles : s.cycles ≤ t.cycles := by exact Nat.le_refl _
  draws : s.draws ≤ t.draws := by exact Nat.le_refl _
  history : s.history <+: t.history := by exact List.prefix_rfl

theorem State.Appends.trans (h : s.Appends t) (h' : t.Appends u) : s.Appends u :=
  ⟨h.cycles.trans h'.cycles, h.draws.trans h'.draws, h.history.trans h'.history⟩

theorem appends_drawn (s : State) : s.Appends s.drawn where
  draws := Nat.le_succ _

theorem appends_invalid (s : State) (k : InvalidKind) (a : Addr) : s.Appends (s.invalid k a) where
  history := List.prefix_append ..

/-! ## A bus read -/

theorem busRead_onlyReads (h : busRead a s = .ok v u) : s.onlyReads u := by
  rcases busRead_cases a s with ⟨v, t, e, ht⟩ | ⟨k, e⟩ <;> rw [e] at h <;> cases h
  exact ht

theorem busRead_appends (h : busRead a s = .ok v u) : s.Appends u := by
  unfold busRead at h
  cases hl : s.locate a <;> rw [hl] at h
  case vram | oam =>
    simp only [videoRead, draw] at h
    split at h <;> cases h
    · exact appends_drawn s
    · exact {}
  case ext tg =>
    cases tg <;> cases h
    case ram | rtc => exact {}
    case nibble => exact appends_drawn s
    case openBus k => exact appends_invalid s k a
    case unselected => exact (appends_invalid s _ a).trans (appends_drawn _)
  case prohibited =>
    simp only [prohibitedRead, draw] at h
    split at h <;> cases h
    · exact (appends_invalid s _ a).trans (appends_drawn _)
    · exact appends_invalid s _ a
  case io => cases h; exact appends_drawn s
  all_goals cases h
  all_goals exact {}

/-! ## A bus write -/

/-- The parts of the state after a bus write of `v` to `a`; by default a part is as it was. -/
structure State.BusWritten (s : State) (a : Addr) (v : Byte) (t : State) : Prop where
  cart : t.cart = s.cart ∨ t.cart = s.cart.writeReg a.toNat v ∨ (∃ r, t.cart = s.cart.rtcWrite r v) := by
    exact .inl rfl
  wram : Memory.Written (s.locate a = .wram ·) v s.wram t.wram := by exact .inl rfl
  hram : Memory.Written (s.locate a = .hram ·) v s.hram t.hram := by exact .inl rfl
  vram : Memory.Written (s.locate a = .vram ·) v s.vram t.vram := by exact .inl rfl
  oam : Memory.Written (s.locate a = .oam ·) v s.oam t.oam := by exact .inl rfl
  cartRam : Memory.Written (fun off => s.locate a = .ext (.ram off)) v s.cartRam t.cartRam := by exact .inl rfl
  nram : Memory.Written (fun off => s.locate a = .ext (.nibble off)) (v &&& 0x0F) s.nram t.nram := by exact .inl rfl
  dma : t.dma = s.dma ∨ t.dma = { active := true, delay := s.params.dmaStartDelay, count := 0 } := by exact .inl rfl
  appends : s.Appends t := by exact {}

theorem busWrite_parts (h : busWrite a v s = .ok () t) : s.BusWritten a v t := by
  unfold busWrite at h
  cases hl : s.locate a <;> rw [hl] at h
  case rom off => cases h; exact { cart := .inr (.inl rfl), appends := { history := List.prefix_append .. } }
  case vram off =>
    have hw : Memory.Written (s.locate a = .vram ·) v s.vram (videoStore s.vram off v s) :=
      (videoStore_cases ..).symm.imp_right fun e => ⟨off, hl, e⟩
    cases h
    unfold State.videoDrawn
    split
    · exact { vram := hw, appends := { draws := Nat.le_succ _ } }
    · exact { vram := hw }
  case oam off =>
    have hw : Memory.Written (s.locate a = .oam ·) v s.oam (videoStore s.oam off v s) :=
      (videoStore_cases ..).symm.imp_right fun e => ⟨off, hl, e⟩
    cases h
    unfold State.videoDrawn
    split
    · exact { oam := hw, appends := { draws := Nat.le_succ _ } }
    · exact { oam := hw }
  case ext tg =>
    cases tg <;> cases h
    case ram off => exact { cartRam := .inr ⟨off, hl, rfl⟩ }
    case nibble off => exact { nram := .inr ⟨off, hl, rfl⟩ }
    case rtc r => exact { cart := .inr (.inr ⟨r, rfl⟩) }
    case openBus k => exact { appends := appends_invalid s k a }
    case unselected => exact { appends := appends_invalid s _ a }
  case wram off => cases h; exact { wram := .inr ⟨off, hl, rfl⟩ }
  case hram off => cases h; exact { hram := .inr ⟨off, hl, rfl⟩ }
  case echoFault => cases h
  case prohibited =>
    simp only [prohibitedWrite] at h
    split at h <;> cases h
    all_goals exact { appends := appends_invalid s _ a }
  case dma =>
    simp only [startDma] at h
    split at h <;> cases h
    exact { dma := .inr rfl }
  case io =>
    simp only [ioWrite] at h
    split at h <;> cases h
    exact { appends := { history := List.prefix_append .. } }
  case iflag | svbk | ie => cases h; exact {}

/-! ## The offsets of each store -/

theorem wramBank_lt (s : State) : s.wramBank < if s.params.cgbMode then 8 else 2 := by
  have := s.svbk.isLt
  unfold State.wramBank zeroToOne
  split <;> [split <;> omega; omega]

theorem wramOffset_lt {off : Nat} (h : off < 0x2000) :
    s.wramOffset off < if s.params.cgbMode then 0x8000 else 0x2000 := by
  have := wramBank_lt s
  unfold State.wramOffset
  split_ifs at this ⊢ <;> omega

/-- A target's offset is one that its store has (R120, R228, R245). -/
def Target.InRange (wramSize cartRamSize : Nat) : Target → Prop
  | .wram off => off < wramSize
  | .hram off => off < 127
  | .vram off => off < 0x2000
  | .oam off => off < 160
  | .ext (.ram off) => off < cartRamSize
  | .ext (.nibble off) => off < 512
  | _ => True

theorem Target.InRange.of_eq {g g' : Target} {m n : Nat} (h : g.InRange m n) (e : g = g') : g'.InRange m n := e ▸ h

theorem ramByte_inRange (c : Cart) (bank n : Nat) {off : Nat} (h : off < 0x2000) :
    (Target.ext (c.ramByte bank off)).InRange n (c.ramBanks * 0x2000) := by
  unfold Cart.ramByte
  split
  · trivial
  · have : bank % c.ramBanks < c.ramBanks := Nat.mod_lt _ (by omega)
    show bank % c.ramBanks * 0x2000 + off < c.ramBanks * 0x2000
    omega

theorem ramTarget_inRange (c : Cart) (n : Nat) {off : Nat} (h : off < 0x2000) :
    (Target.ext (c.ramTarget off)).InRange n (c.ramBanks * 0x2000) := by
  unfold Cart.ramTarget
  split
  · exact ramByte_inRange c _ n h
  all_goals split
  · exact ramByte_inRange c _ n h
  · trivial
  · exact Nat.mod_lt off (by decide)
  · trivial
  · split
    · exact ramByte_inRange c _ n h
    · split
      · split <;> trivial
      · trivial
  · trivial
  · exact ramByte_inRange c _ n h
  · trivial

theorem locate_inRange (s : State) (a : Addr) :
    (s.locate a).InRange (if s.params.cgbMode then 0x8000 else 0x2000) (s.cart.ramBanks * 0x2000) := by
  rcases locate_cases s a with ⟨h1, e⟩ | ⟨h1, h2, e⟩ | ⟨h1, h2, e⟩ | ⟨h1, h2, e⟩ | ⟨h1, h2, h3, e⟩ | ⟨h1, h2, h3, e⟩
    | ⟨h1, h2, e⟩ | ⟨h1, h2, e⟩ | ⟨h1, e⟩ | ⟨h1, e⟩ | ⟨h1, h2, e⟩ | ⟨h1, h2, h3, h4, h5, e⟩ | ⟨h1, h2, e⟩ | ⟨h1, e⟩
    <;> rw [e]
  case inr.inr.inl => exact ramTarget_inRange _ _ (by omega)
  case inr.inr.inr.inl | inr.inr.inr.inr.inl => exact wramOffset_lt (by omega)
  all_goals simp only [Target.InRange]
  all_goals omega

end Sys2Proof.Machine
end

section
/-! PROOFS. What every step keeps, each invariant by the elementary updates of `Stable` (spec 70_reset_and_hazards.md
R720). -/

namespace Sys2Proof.Machine

/-! ## F's low nibble (R105) -/

theorem stable_fClean : Stable State.fClean State.fClean where
  enter h _ := h
  leave h := h
  regs g hg h := hg.elim (fun e => (congrArg (· &&& 0x0F) e).trans h) id
  cycles _ h := h
  control _ _ _ _ h := h
  mode _ _ h := h
  raised _ h := h
  busRead e h := by rw [busRead_onlyReads e]; exact h
  busWrite e h := by rw [(busWriteFrame _ _ _ _ e).2]; exact h
  busWriteStop _ _ h := h
  dmaDelay h _ _ := h
  dmaStore _ h _ _ := h
  iflag _ h := h
  rtcTick h := h
  schedule _ h := h

/-- Settles O54: a register write keeps F or writes it with a zero low nibble, and nothing else writes F. -/
theorem stepKeepsFlagNibble : Obligations.StepKeepsFlagNibble := fun _ _ => stable_fClean.step

/-! ## The canonical form of the stores (R120) -/

theorem stable_storesWf : Stable State.storesWf State.storesWf where
  enter h _ := h
  leave h := h
  regs _ _ h := h
  cycles _ h := h
  control _ _ _ _ h := h
  mode _ _ h := h
  raised _ h := h
  busRead e h := by rw [busRead_onlyReads e]; exact h
  busWrite {s t a v} e h := by
    obtain ⟨hwram, hhram, hvram, hoam, hrom, hcartRam, hnram⟩ := h
    have hw := busWrite_parts e
    have hr : t.rom = s.rom := by rw [(busWriteFrame _ _ _ _ e).2]
    exact ⟨hw.wram.wf hwram, hw.hram.wf hhram, hw.vram.wf hvram, hw.oam.wf hoam, hr ▸ hrom, hw.cartRam.wf hcartRam,
      hw.nram.wf hnram⟩
  busWriteStop _ _ h := h
  dmaDelay h _ _ := h
  dmaStore v h _ _ := by
    obtain ⟨hwram, hhram, hvram, hoam, hrest⟩ := h
    exact ⟨hwram, hhram, hvram, Memory.wf_write _ v hoam, hrest⟩
  iflag _ h := h
  rtcTick h := h
  schedule _ h := h

/-- Settles O55: every store is written by `Memory.write` alone, by the bus or by the DMA sequencer. -/
theorem stepKeepsStoresCanonical : Obligations.StepKeepsStoresCanonical := fun _ _ => stable_storesWf.step

/-! ## The ranges of the stores and of the DMA sequencer (R118, R120, R245) -/

theorem rtcTick_fixed (c : Cart) : c.rtcTick = { c with mbc := c.rtcTick.mbc } := by
  unfold Cart.rtcTick
  split
  · split <;> rfl
  · rfl

theorem and_lowNibble_lt (v : Byte) : (v &&& 0x0F).toNat < 16 := by
  have := toNat_and_lowMask v (k := 4) (by decide)
  have : (v &&& 0x0F).toNat = v.toNat % 2 ^ 4 := this
  omega

theorem busWrite_dmaWf {s t : State} {a : Addr} {v : Byte} (e : busWrite a v s = .ok () t) (h : s.dmaWf) : t.dmaWf := by
  have hp : t.params = s.params := by rw [(busWriteFrame _ _ _ _ e).2]
  unfold State.dmaWf
  rw [hp]
  rcases (busWrite_parts e).dma with hd | hd <;> rw [hd]
  · exact h
  · exact ⟨Nat.zero_le _, Nat.le_refl _, fun _ => (by decide : 0 < 160), nofun⟩

theorem busWrite_storesInRange {s t : State} {a : Addr} {v : Byte} (e : busWrite a v s = .ok () t)
    (h : s.storesInRange) : t.storesInRange := by
  obtain ⟨hwram, hhram, hvram, hoam, hrom, hcartRam, hnram, hnibbles⟩ := h
  have hw := busWrite_parts e
  have hl := locate_inRange s a
  have hf := (busWriteFrame _ _ _ _ e).2
  have hr : t.rom = s.rom := by rw [hf]
  have hp : t.params = s.params := by rw [hf]
  have hc : t.cart.romBanks = s.cart.romBanks ∧ t.cart.ramBanks = s.cart.ramBanks := by rw [hf]; exact ⟨rfl, rfl⟩
  unfold State.storesInRange
  rw [hr, hp, hc.1, hc.2]
  exact ⟨hw.wram.below (fun _ => hl.of_eq) hwram, hw.hram.below (fun _ => hl.of_eq) hhram,
    hw.vram.below (fun _ => hl.of_eq) hvram, hw.oam.below (fun _ => hl.of_eq) hoam, hrom,
    hw.cartRam.below (fun _ => hl.of_eq) hcartRam, hw.nram.below (fun _ => hl.of_eq) hnram,
    hw.nram.nibbles (and_lowNibble_lt v) hnibbles⟩

/-- The DMA sequencer's own writes stay in OAM because its count does. -/
theorem stable_ranges : Stable (fun s => s.dmaWf ∧ s.storesInRange) (fun s => s.dmaWf ∧ s.storesInRange) where
  enter h _ := h
  leave h := h
  regs _ _ h := h
  cycles _ h := h
  control _ _ _ _ h := h
  mode _ _ h := h
  raised _ h := h
  busRead e h := by rw [busRead_onlyReads e]; exact h
  busWrite e h := ⟨busWrite_dmaWf e h.1, busWrite_storesInRange e h.2⟩
  busWriteStop _ _ h := h
  dmaDelay h ha _ := by
    obtain ⟨⟨hcount, hdelay, hactive, -⟩, hs⟩ := h
    exact ⟨⟨hcount, (Nat.sub_le _ _).trans hdelay, hactive, fun hi => absurd (ha.symm.trans hi) nofun⟩, hs⟩
  dmaStore v h ha hd := by
    obtain ⟨⟨-, -, hactive, -⟩, hwram, hhram, hvram, hoam, hrest⟩ := h
    have hlt := hactive ha
    refine ⟨⟨hlt, ?_, fun hn => ?_, fun _ => hd⟩, hwram, hhram, hvram, Memory.below_write v hlt hoam, hrest⟩
    · exact hd ▸ Nat.zero_le _
    · exact lt_of_le_of_ne hlt (by simpa [State.dmaStore, dmaTransferSize] using hn)
  iflag _ h := h
  rtcTick {s} h := by
    have hc : s.cart.rtcTick.romBanks = s.cart.romBanks ∧ s.cart.rtcTick.ramBanks = s.cart.ramBanks := by
      rw [rtcTick_fixed]; exact ⟨rfl, rfl⟩
    unfold State.storesInRange
    dsimp only
    rw [hc.1, hc.2]
    exact h
  schedule _ h := h

/-- Settles O56: a bus write lands at an offset that `locate_inRange` bounds, and the sequencer's at its count. -/
theorem stepKeepsRanges : Obligations.StepKeepsRanges := fun _ _ hd hs => stable_ranges.step ⟨hd, hs⟩

/-! ## The ROM, the parameters and what construction fixed (R121, R123, R204, R230) -/

/-- The variant of a register file (R232). -/
def Mbc.variant : Mbc → Variant
  | .noMbc => .noMbc
  | .mbc1 _ => .mbc1
  | .mbc2 _ => .mbc2
  | .mbc3 _ => .mbc3
  | .mbc5 _ => .mbc5

theorem of_variant_eq {m m' : Mbc} (h : m'.variant = m.variant) :
    (∀ r, m = .mbc1 r → ∃ r', m' = .mbc1 r') ∧ (∀ r, m = .mbc2 r → ∃ r', m' = .mbc2 r')
    ∧ (∀ r, m = .mbc3 r → ∃ r', m' = .mbc3 r') ∧ (∀ r, m = .mbc5 r → ∃ r', m' = .mbc5 r')
    ∧ (m = .noMbc → m' = .noMbc) := by
  cases m <;> cases m' <;> simp [Mbc.variant] at h ⊢

theorem variant_writeReg (c : Cart) (a : Nat) (v : Byte) : (c.writeReg a v).mbc.variant = c.mbc.variant := by
  unfold Cart.writeReg
  split <;> simp only [Mbc.variant, *]

theorem variant_rtcWrite (c : Cart) (r : RtcReg) (v : Byte) : (c.rtcWrite r v).mbc.variant = c.mbc.variant := by
  unfold Cart.rtcWrite
  split <;> simp only [Mbc.variant, *]

theorem variant_rtcTick (c : Cart) : c.rtcTick.mbc.variant = c.mbc.variant := by
  unfold Cart.rtcTick
  split
  · split <;> simp only [Mbc.variant, *]
  · rfl

/-- The image, the parameters, and of the cartridge everything but its registers. -/
def State.constants (s : State) : Memory × Params × Cart × Variant :=
  (s.rom, s.params, { s.cart with mbc := .noMbc }, s.cart.mbc.variant)

theorem constants_busWrite {s t : State} {a : Addr} {v : Byte} (e : busWrite a v s = .ok () t) :
    t.constants = s.constants := by
  have hv : t.cart.mbc.variant = s.cart.mbc.variant := by
    rcases (busWrite_parts e).cart with hc | hc | ⟨r, hc⟩ <;> rw [hc]
    · exact variant_writeReg ..
    · exact variant_rtcWrite ..
  have hf := (busWriteFrame _ _ _ _ e).2
  unfold State.constants
  rw [hv, hf]

theorem stable_constants (s₀ : State) :
    Stable (fun s => s.constants = s₀.constants) (fun s => s.constants = s₀.constants) where
  enter h _ := h
  leave h := h
  regs _ _ h := h
  cycles _ h := h
  control _ _ _ _ h := h
  mode _ _ h := h
  raised _ h := h
  busRead e h := by rw [busRead_onlyReads e]; exact h
  busWrite e h := (constants_busWrite e).trans h
  busWriteStop _ _ h := h
  dmaDelay h _ _ := h
  dmaStore _ h _ _ := h
  iflag _ h := h
  rtcTick {s} h := by
    refine Eq.trans ?_ h
    unfold State.constants
    rw [variant_rtcTick, rtcTick_fixed]
  schedule _ h := h

/-- Settles O57: every elementary update keeps the constants, the variant among them. -/
theorem stepNeverChangesRom : Obligations.StepNeverChangesRom := by
  intro s t e
  have h : t.constants = s.constants := (stable_constants s).step rfl e
  simp only [State.constants, Prod.mk.injEq] at h
  obtain ⟨hrom, hparams, hcart, hvariant⟩ := h
  exact ⟨hrom, hparams, congrArg (fun c : Cart => { c with mbc := t.cart.mbc }) hcart, of_variant_eq hvariant⟩

/-! ## Cycles, draws, history and the fault record (R113, R124, R600) -/

theorem stable_appends (s₀ : State) : Stable s₀.Appends s₀.Appends where
  enter h _ := h
  leave h := h
  regs _ _ h := { h with }
  cycles k h := { h with cycles := h.cycles.trans (Nat.le_add_right _ k) }
  control _ _ _ _ h := { h with }
  mode _ _ h := { h with }
  raised _ h := { h with }
  busRead e h := h.trans (busRead_appends e)
  busWrite e h := h.trans (busWrite_parts e).appends
  busWriteStop _ _ h := { h with }
  dmaDelay h _ _ := { h with }
  dmaStore _ h _ _ := { h with }
  iflag _ h := { h with }
  rtcTick h := { h with }
  schedule _ h := { h with }

/-- Between the updates of a step no fault is recorded; a fault sets the mode and the record together. -/
theorem stable_faultWf : Stable (fun s => s.mode ≠ .faulted ∧ s.fault = none) State.faultWf where
  enter h hm := ⟨hm, Option.not_isSome_iff_eq_none.1 fun hf => hm (h.2 hf)⟩
  leave h := iff_of_false h.1 (by simp [h.2])
  regs _ _ h := h
  cycles _ h := h
  control _ _ _ _ h := h
  mode _ hm h := ⟨hm, h.2⟩
  raised _ _ := iff_of_true rfl rfl
  busRead e h := by rw [busRead_onlyReads e]; exact h
  busWrite e h := by rw [(busWriteFrame _ _ _ _ e).2]; exact h
  busWriteStop _ _ _ := iff_of_true rfl rfl
  dmaDelay h _ _ := h
  dmaStore _ h _ _ := h
  iflag _ h := h
  rtcTick h := h
  schedule _ h := h

/-- "from then on no agent takes a step" (R600). -/
theorem step_of_faulted {s : State} (h : s.mode = .faulted) : step s = .fault (.faulted s.fault) := if_pos h

/-- Settles O58: the counters and the history by `Appends`; a step that answers a next state starts where no fault is
recorded, so that a record once set has no such step. -/
theorem stepOnlyAppends : Obligations.StepOnlyAppends := by
  intro s t e
  have ha : s.Appends t := (stable_appends s).step {} e
  obtain ⟨more, hm⟩ := ha.history
  refine ⟨ha.cycles, ha.draws, ⟨more, hm.symm⟩, fun hw => ⟨stable_faultWf.step hw e, fun hf => ?_⟩⟩
  rw [step_of_faulted (hw.2 hf)] at e
  cases e

end Sys2Proof.Machine
end

section
/-! PROOFS. The reset state meets the invariants (spec 10_state.md, 70_reset_and_hazards.md R700 to R709). -/

namespace Sys2Proof.Machine

theorem Memory.wf_nil : Memory.wf [] := ⟨.nil, nofun⟩

variable (p : Params) (boot : BootRegs) (ifReset : Byte) (mem : InitialMemory) (cart : Cart) (image : Memory)

theorem fClean_resetWith : (State.resetWith p boot ifReset mem cart image).fClean := high_nibble_low boot.f

theorem dmaWf_resetWith : (State.resetWith p boot ifReset mem cart image).dmaWf :=
  ⟨Nat.zero_le _, Nat.zero_le _, nofun, fun _ => rfl⟩

theorem faultWf_resetWith : (State.resetWith p boot ifReset mem cart image).faultWf := iff_of_false nofun nofun

/-- The reset state holds the stores it is given. -/
theorem storesWf_resetWith (h : mem.wram.wf ∧ mem.hram.wf ∧ mem.vram.wf ∧ mem.oam.wf ∧ image.wf ∧ mem.cartRam.wf
    ∧ mem.nram.wf) : (State.resetWith p boot ifReset mem cart image).storesWf := h

/-- Settles O7: each invariant for every choice of the parameters, and `State.reset` lists nothing in its stores. -/
theorem resetMeetsInvariants : Obligations.ResetMeetsInvariants := by
  refine ⟨⟨fClean_resetWith .., storesWf_resetWith _ _ _ _ _ _ ?_, ?_, dmaWf_resetWith .., faultWf_resetWith ..⟩,
    fun p boot ifReset mem cart image => ⟨fClean_resetWith .., dmaWf_resetWith .., faultWf_resetWith ..,
      storesWf_resetWith p boot ifReset mem cart image⟩⟩
  · exact ⟨Memory.wf_nil, Memory.wf_nil, Memory.wf_nil, Memory.wf_nil, Memory.wf_nil, Memory.wf_nil, Memory.wf_nil⟩
  · exact ⟨nofun, nofun, nofun, nofun, nofun, nofun, nofun, nofun⟩

end Sys2Proof.Machine
end

section
/-! PROOFS. The fetch of an instruction whose bytes stand at pc, and where a fetch faults (spec 30_encoding.md R304,
46_misc.md R595, R596, 60_exceptions.md R602). -/

namespace Sys2Proof.Machine

variable {s t : State} {a : Addr} {v : Byte}

/-! ## The opcode (R596, R597) -/

/-- The state after a completed fetch of an opcode that the core stores: the HALT bug keeps pc and is used up. -/
def State.opcodeFetched (s : State) : State :=
  { s with
    regs := { s.regs with pc := if s.haltBug then s.regs.pc else s.regs.pc + 1 }
    opcodeAddr := s.regs.pc
    haltBug := false }

theorem fetchOpcode_of_holdsAt (h : s.holdsAt s.regs.pc [v]) : fetchOpcode s = .ok v s.opcodeFetched := by
  unfold fetchOpcode State.opcodeFetched
  rw [memRead_of_peek h.1 h.2.1]
  dsimp only [Res.bind]
  cases hb : s.haltBug
  · simp only [Bool.false_eq_true, if_false, State.setPc]
  · rfl

/-! ## The bytes after it (R304) -/

/-- The fetch of the bytes that belong to an opcode, and the instruction they make. -/
def fetchOperands (op : Byte) (s : State) : Res Instr :=
  if opLength op = 1 then .ok (decodeOp op 0 0) s
  else (fetch8 s).bind fun b1 s =>
    if opLength op = 2 then .ok (decodeOp op b1 0) s
    else (fetch8 s).bind fun b2 s => .ok (decodeOp op b1 b2) s

theorem fetchInstr_eq (s : State) : fetchInstr s = (fetchOpcode s).bind fetchOperands := rfl

/-- The bytes of an instruction, by the length that its opcode decides. -/
theorem encode_cases {i : Instr} {op : Byte} {imm : List Byte} (hi : i.wf = true) (he : encode i = op :: imm) :
    (opLength op = 1 ∧ imm = [] ∧ i = decodeOp op 0 0)
    ∨ (∃ b1, opLength op = 2 ∧ imm = [b1] ∧ i = decodeOp op b1 0)
    ∨ (∃ b1 b2, opLength op = 3 ∧ imm = [b1, b2] ∧ i = decodeOp op b1 b2) := by
  have h := decode_encode [] hi
  rw [he, List.append_nil] at h
  rcases decode_ok_cases h with ⟨op', hl, e, hd⟩ | ⟨op', b1, hl, e, hd⟩ | ⟨op', b1, b2, hl, e, hd⟩ <;> cases e
  · exact .inl ⟨hl, rfl, hd⟩
  · exact .inr (.inl ⟨b1, hl, rfl, hd⟩)
  · exact .inr (.inr ⟨b1, b2, hl, rfl, hd⟩)

theorem setPc_self (s : State) : s.setPc s.regs.pc = s := rfl

/-- The operands of an instruction whose bytes stand at pc. -/
theorem fetchOperands_of_holdsAt {i : Instr} {op : Byte} {imm : List Byte} (hi : i.wf = true)
    (he : encode i = op :: imm) (h : s.holdsAt s.regs.pc imm) :
    fetchOperands op s = .ok i (s.setPc (s.regs.pc + BitVec.ofNat 16 imm.length)) := by
  unfold fetchOperands
  rcases encode_cases hi he with ⟨hl, rfl, rfl⟩ | ⟨b1, hl, rfl, rfl⟩ | ⟨b1, b2, hl, rfl, rfl⟩ <;> rw [hl]
  · exact congrArg (Res.ok _) (by rw [List.length_nil, BitVec.add_zero, setPc_self])
  · rw [fetch8_of_peek h.1 h.2.1]
    rfl
  · rw [fetch8_of_peek h.1 h.2.1]
    dsimp only [Res.bind]
    have h2 := h.2.2
    rw [fetch8_of_peek (s := s.setPc (s.regs.pc + 1)) h2.1 h2.2.1]
    exact congrArg (Res.ok _ <| s.setPc ·) (add_one_add_one _)

/-! ## A fetch that faults (R602) -/

/-- The fault of a read is decided by the sequencer, the parameters and the decoder: registers have no part in it. -/
theorem memRead_stop_congr {k : FaultInfo} (hd : t.dma = s.dma) (hp : t.params = s.params)
    (hl : t.locate a = s.locate a) (h : memRead a s = .stop (s.raised k)) : memRead a t = .stop (t.raised k) := by
  have hk : ∀ k', (raise k' s : Res Byte) = .stop (s.raised k) → (raise k' t : Res Byte) = .stop (t.raised k) := by
    intro k' e
    cases congrArg State.fault (Res.stop.inj e)
    rfl
  unfold memRead State.dmaConflict at h ⊢
  rw [hd]
  split at h
  · rw [if_pos ‹_›]; exact hk _ h
  · rw [if_neg ‹_›]
    unfold busRead at h ⊢
    rw [hl]
    cases hloc : s.locate a <;> rw [hloc] at h
    case echoFault => exact hk _ h
    case prohibited =>
      simp only [prohibitedRead, hp] at h ⊢
      split at h
      · cases h
      · cases h
      · exact hk _ h
    case vram | oam =>
      simp only [videoRead] at h
      split at h <;> cases h
    case ext tg => cases tg <;> cases h
    all_goals cases h

theorem fetch8_of_readFaults (h : s.readFaults s.regs.pc) :
    ∃ r, memRead s.regs.pc s = .stop (s.raised r) ∧ fetch8 s = .stop (s.raised r) := by
  obtain ⟨r, e⟩ := memRead_stop h
  exact ⟨r, e, bind_of_stop e⟩

theorem fetchInstr_of_readFaults (h : s.readFaults s.regs.pc) :
    ∃ r, memRead s.regs.pc s = .stop (s.raised r) ∧ fetchInstr s = .stop (s.raised r) := by
  obtain ⟨r, e⟩ := memRead_stop h
  exact ⟨r, e, bind_of_stop (bind_of_stop e)⟩

/-- Where a later byte cannot be read, pc stands at that byte. -/
theorem fetchOperands_of_readFaults {i : Instr} {op : Byte} {seen unseen : List Byte} (hi : i.wf = true)
    (he : encode i = op :: (seen ++ unseen)) (hu : unseen ≠ []) (h : s.holdsAt s.regs.pc seen)
    (hf : s.readFaults (s.regs.pc + BitVec.ofNat 16 seen.length)) :
    ∃ r, memRead (s.regs.pc + BitVec.ofNat 16 seen.length) s = .stop (s.raised r)
      ∧ fetchOperands op s = .stop ((s.setPc (s.regs.pc + BitVec.ofNat 16 seen.length)).raised r) := by
  have hlen : opLength op = 1 + (seen ++ unseen).length := by
    rcases encode_cases hi he with ⟨hl, e, -⟩ | ⟨b1, hl, e, -⟩ | ⟨b1, b2, hl, e, -⟩ <;> rw [hl, e] <;> rfl
  have hpos := List.length_pos_iff.2 hu
  have hle : opLength op ≤ 3 := by have := opLength_cases op; omega
  rw [List.length_append] at hlen
  unfold fetchOperands
  rw [if_neg (by omega)]
  match seen, h, hf with
  | [], _, hf =>
    rw [List.length_nil, BitVec.add_zero] at hf ⊢
    obtain ⟨r, hr, hs⟩ := fetch8_of_readFaults hf
    exact ⟨r, hr, bind_of_stop hs⟩
  | [b1], h, hf =>
    obtain ⟨r, hr, hs⟩ := fetch8_of_readFaults (s := s.setPc (s.regs.pc + 1)) hf
    refine ⟨r, memRead_stop_congr (s := s.setPc (s.regs.pc + 1)) rfl rfl rfl hr, ?_⟩
    rw [fetch8_of_peek h.1 h.2.1]
    dsimp only [Res.bind]
    simp only [List.length_singleton] at hlen
    rw [if_neg (by omega)]
    exact bind_of_stop hs
  | _ :: _ :: _, _, _ =>
    simp only [List.length_cons] at hlen
    omega

end Sys2Proof.Machine
end

section
/-! PROOFS. The step of a running core that fetches an instruction, with and without the HALT bug, and where a fault
ends it (spec 46_misc.md R596, R597, 60_exceptions.md R600, R602, 70_reset_and_hazards.md R720). -/

namespace Sys2Proof.Machine

/-! ## The step by its fetch -/

theorem instrStep_of_fetch {s t : State} {i : Instr} (h : fetchInstr s = .ok i t) : instrStep s = runThen s t i := by
  unfold instrStep runThen
  rw [h]
  dsimp only
  cases exec i t with
  | next u => exact afterInstr_eq_endStep s u
  | fault r => rfl
  | refused r => rfl

theorem instrStep_of_fetch_stop {s t : State} (h : fetchInstr s = .stop t) : instrStep s = .next t := by
  unfold instrStep
  rw [h]

/-- A step of a running core with no dispatch due is the step of an instruction. -/
theorem step_eq_instrStep {s : State} (hs : s.mode ≠ .faulted) (hm : s.takeEnv.mode = .running)
    (hd : s.takeEnv.dispatchDue = false) : step s = instrStep s.takeEnv := by
  rw [step_of_running hs hm, activeStep, hd]
  rfl

theorem instrStep_of_holdsAt {e : State} {i : Instr} {op : Byte} {imm : List Byte} (hi : i.wf = true)
    (he : encode i = op :: imm) (hop : e.holdsAt e.regs.pc [op])
    (himm : e.holdsAt e.opcodeFetched.regs.pc imm) :
    instrStep e =
      runThen e (e.opcodeFetched.setPc (e.opcodeFetched.regs.pc + BitVec.ofNat 16 imm.length)) i := by
  have himm' : e.opcodeFetched.holdsAt e.opcodeFetched.regs.pc imm :=
    holdsAt_congr (s := e) (t := e.opcodeFetched) rfl (fun _ => rfl) imm _ himm
  refine instrStep_of_fetch ?_
  rw [fetchInstr_eq, fetchOpcode_of_holdsAt hop]
  exact fetchOperands_of_holdsAt hi he himm'

/-- The bytes of an instruction as the opcode and the rest. -/
theorem encode_ne_nil {i : Instr} (hi : i.wf = true) : ∃ op imm, encode i = op :: imm := by
  have h := decode_encode [] hi
  cases he : encode i with
  | nil => rw [he] at h; cases h
  | cons op imm => exact ⟨op, imm, rfl⟩

theorem opcodeFetched_of_no_bug {s : State} (h : s.haltBug = false) :
    s.opcodeFetched = { s with regs := { s.regs with pc := s.regs.pc + 1 }, opcodeAddr := s.regs.pc } := by
  cases s
  subst h
  rfl

theorem opcodeFetched_of_bug {s : State} (h : s.haltBug = true) :
    s.opcodeFetched = { s with opcodeAddr := s.regs.pc, haltBug := false } := by
  unfold State.opcodeFetched
  rw [h]
  rfl

theorem add_one_add_ofNat (x : Addr) (n : Nat) : x + 1 + BitVec.ofNat 16 n = x + BitVec.ofNat 16 (n + 1) := by
  rw [BitVec.ofNat_add, BitVec.add_assoc, BitVec.add_comm 1]
  rfl

/-- Settles O46: the opcode's fetch, then its operands, then the step that runs the instruction. -/
theorem stepRunsDecodedInstruction : Obligations.StepRunsDecodedInstruction := by
  intro s i hs e hm hd hb hi h
  obtain ⟨op, imm, he⟩ := encode_ne_nil hi
  rw [he] at h ⊢
  have hpc : e.opcodeFetched.regs.pc = e.regs.pc + 1 := by rw [opcodeFetched_of_no_bug hb]
  rw [step_eq_instrStep hs hm hd, instrStep_of_holdsAt hi he ⟨h.1, h.2.1, trivial⟩ (hpc ▸ h.2.2), hpc,
    add_one_add_ofNat, opcodeFetched_of_no_bug hb]
  rfl

/-- Settles O47: after the HALT bug the opcode's fetch leaves pc where it was. -/
theorem haltBugFetch : Obligations.HaltBugFetch := by
  intro s i op imm hs e hm hd hb hi he hop himm
  have hpc : e.opcodeFetched.regs.pc = e.regs.pc := by rw [opcodeFetched_of_bug hb]
  rw [step_eq_instrStep hs hm hd, instrStep_of_holdsAt hi he hop (hpc ▸ himm), hpc, opcodeFetched_of_bug hb]
  rfl

/-! ## The illegal opcodes (R308, R597) -/

theorem encode_illegal {p : Byte × Instr} (h : p ∈ illegalOps) : encode p.2 = [p.1] ∧ p.2.wf = true := by
  simp only [illegalOps, List.mem_cons, List.not_mem_nil, or_false] at h
  rcases h with rfl | rfl | rfl | rfl | rfl | rfl | rfl | rfl | rfl | rfl | rfl <;> exact ⟨rfl, rfl⟩

/-- A fault ends the step of an illegal opcode at once (R600). -/
theorem runThen_illegal {p : Byte × Instr} (h : p ∈ illegalOps) (e f : State) :
    runThen e f p.2 = .next (f.raised (.illegalOpcode p.1 f.opcodeAddr)) := by
  unfold runThen
  rw [exec_illegal h]
  exact if_pos rfl

/-- Settles O45: each of the eleven is its one byte, its step is the opcode's fetch and the fault, and a faulted state
takes no step. -/
theorem illegalOpcodes : Obligations.IllegalOpcodes := by
  refine ⟨rfl, fun p hp => ?_⟩
  obtain ⟨he, hi⟩ := encode_illegal hp
  refine ⟨fun rest => ?_, fun s => ⟨exec_illegal hp s, fun t ht => ?_, fun hs => ?_⟩⟩
  · have h := decode_encode rest hi
    rwa [he] at h
  · rw [exec_illegal hp] at ht
    cases ht
    exact step_of_faulted rfl
  · intro e hm hd h
    rw [step_eq_instrStep hs hm hd, instrStep_of_holdsAt hi he h trivial, runThen_illegal hp]
    rw [List.length_nil, BitVec.add_zero, setPc_self]
    rfl

/-! ## Faults (R600, R602) -/

theorem outcome_next (r : Res Unit) : ∃ t, r.outcome = .next t := by
  cases r <;> exact ⟨_, rfl⟩

theorem activeStep_next (s : State) : ∃ t, activeStep s = .next t := by
  unfold activeStep
  split
  · exact outcome_next _
  · cases h : fetchInstr s with
    | stop t => exact ⟨t, instrStep_of_fetch_stop h⟩
    | ok i t =>
      obtain ⟨u, hu⟩ := exec_next i t
      rw [instrStep_of_fetch h, runThen, hu]
      dsimp only [endStep]
      split
      · exact ⟨u, rfl⟩
      · exact outcome_next _

/-- The CPU takes a step from every state that is not faulted. -/
theorem cpuStep_next {s : State} (h : s.mode ≠ .faulted) : ∃ t, cpuStep s = .next t := by
  unfold cpuStep
  cases hm : s.mode
  case faulted => exact absurd hm h
  case stopped => exact ⟨_, rfl⟩
  case halted =>
    dsimp only
    split
    · exact outcome_next _
    · exact activeStep_next _
  case running => exact activeStep_next s

/-- Settles O51: that the mode and the record go together is an invariant of the step, and where the fetch of a byte
faults the step is what the bytes before it changed. -/
theorem faultsEndTheRun : Obligations.FaultsEndTheRun := by
  refine ⟨⟨fun s => step_of_faulted, fun s hs hf => ?_⟩, fun s hs => ?_⟩
  · obtain ⟨t, ht⟩ := cpuStep_next (stable_faultWf.takeEnv ⟨hs, hf⟩).1
    have e : step s = .next t := (step_eq_cpuStep hs).trans ht
    exact ⟨t, e, stable_faultWf.step (stable_faultWf.leave ⟨hs, hf⟩) e⟩
  · intro e hm hd
    rw [step_eq_instrStep hs hm hd]
    refine ⟨fun hf => ?_, fun i seen unseen => ?_⟩
    · obtain ⟨r, hr, hstop⟩ := fetchInstr_of_readFaults hf
      exact ⟨r, hr, instrStep_of_fetch_stop hstop⟩
    · intro next hb hi he hseen hunseen h hf
      obtain ⟨op, seen, rfl⟩ := List.exists_cons_of_ne_nil hseen
      have hpc : e.opcodeFetched.regs.pc = e.regs.pc + 1 := by rw [opcodeFetched_of_no_bug hb]
      have hnext : e.opcodeFetched.regs.pc + BitVec.ofNat 16 seen.length = next := by
        rw [hpc, add_one_add_ofNat]; rfl
      have hheld : e.opcodeFetched.holdsAt e.opcodeFetched.regs.pc seen :=
        holdsAt_congr (s := e) (t := e.opcodeFetched) rfl (fun _ => rfl) seen _ (hpc ▸ h.2.2)
      obtain ⟨r, hr, hstop⟩ := fetchOperands_of_readFaults hi he hunseen hheld (by rw [hnext]; exact hf)
      rw [hnext] at hr hstop
      refine ⟨r, memRead_stop_congr (s := e.opcodeFetched) rfl rfl rfl hr, instrStep_of_fetch_stop ?_⟩
      rw [fetchInstr_eq, fetchOpcode_of_holdsAt ⟨h.1, h.2.1, trivial⟩]
      dsimp only [Res.bind]
      rw [hstop, opcodeFetched_of_no_bug hb]
      rfl

end Sys2Proof.Machine
end

section
/-! PROOFS. The dispatch of an interrupt (spec 60_exceptions.md R613 to R617, R655). -/

namespace Sys2Proof.Machine

variable {s t u : State}

/-! ## The source and its request (R615, R616) -/

theorem lowestSource_eq {p : BitVec 5} {i : Nat} (hi : i < 5) (h : p.getLsbD i = true)
    (hlow : ∀ j < i, p.getLsbD j = false) : lowestSource p = i := by
  revert p
  interval_cases i <;> decide

theorem getLsbD_clear (f : BitVec 5) (i : Nat) {k : Nat} (hk : k < 5) :
    (f &&& ~~~(1#5 <<< i)).getLsbD k = (f.getLsbD k && decide (k ≠ i)) := by
  have hbit : (1#5 <<< i).getLsbD k = decide (k = i) := by
    rw [← BitVec.twoPow_eq, BitVec.getLsbD_twoPow]
    simp [eq_comm]
    omega
  rw [BitVec.getLsbD_and, BitVec.getLsbD_not, hbit]
  simp [hk]

theorem returnAddress_eq (s : State) :
    s.returnAddress = if s.haltBug then BitVec.ofNat 16 (s.regs.pc.toNat + 0xFFFF) else s.regs.pc := by
  unfold State.returnAddress
  rw [BitVec.sub_eq_add_neg, addr_add_neg_one]

/-! ## The step that dispatches (R614, R620, R720) -/

/-- The state from which the return address is pushed: the core runs, and IME, `eiPending` and the HALT bug are
cleared (R616). -/
def State.dispatching (s : State) : State :=
  { s with ime := false, eiPending := false, haltBug := false, mode := .running }

theorem awake_of_running (h : s.mode = .running) : s.awake = s := by
  cases s; subst h; rfl

/-- A running core dispatches, and a halted one wakes and dispatches. -/
theorem step_eq_dispatchStep (hs : s.mode ≠ .faulted)
    (hm : s.takeEnv.mode = .running ∨ s.takeEnv.mode = .halted) (hime : s.takeEnv.ime = true)
    (hp : s.takeEnv.pending ≠ 0) : step s = dispatchStep s.takeEnv.awake := by
  have hdue : s.takeEnv.awake.dispatchDue = true := by
    show (s.takeEnv.ime && s.takeEnv.pending != 0) = true
    simpa [hime] using hp
  have hactive : activeStep s.takeEnv.awake = dispatchStep s.takeEnv.awake := if_pos hdue
  rw [← hactive]
  rcases hm with hm | hm
  · rw [step_of_running hs hm, awake_of_running hm]
  · rw [step_eq_cpuStep hs, cpuStep_of_halted_of_pending hm hp]

theorem takeInterrupt_awake (s : State) : takeInterrupt s.awake =
    (pushByte (hi8 s.returnAddress) s.dispatching).bind fun _ u =>
      (pushByte (lo8 s.returnAddress) u).bind fun _ t => .ok () ((t.enterVector u.pending).addCycles 5) := rfl

theorem dispatchStep_of_stop (h : takeInterrupt s = .stop t) : dispatchStep s = .next t := by
  rw [dispatchStep, h]
  rfl

/-- The end of a step that dispatched is that of a step whose instruction left `t`. -/
theorem dispatchStep_of_ok (h : takeInterrupt s.awake = .ok () t) (hm : t.mode ≠ .faulted) :
    dispatchStep s.awake = endStep s.dispatching t := by
  rw [← afterInstr_eq_endStep, afterInstr, if_neg hm, dispatchStep, h]
  rfl

/-! ## The obligation -/

theorem writes_mode {a : Addr} {v : Byte} (h : s.writes a v t) : t.mode = s.mode := by
  rw [h.2.1]

/-- The second push of the return address, after the first has moved SP. -/
theorem pushByte_snd {x : Addr} (v : Byte) (h : u.regs.sp = x - 1) :
    pushByte v u = memWrite (x - 2) v (u.setSp (x - 2)) := by
  rw [pushByte, h, sub_one_sub_one]

theorem enterVector_zero (s : State) : s.enterVector 0 = s.setPc 0 := if_pos rfl

theorem enterVector_of_lowest {p : BitVec 5} {i : Nat} (hi : i < 5) (h : p.getLsbD i = true)
    (hlow : ∀ j < i, p.getLsbD j = false) :
    s.enterVector p = ({ s with iflag := s.iflag &&& ~~~(1#5 <<< i) }).setPc (BitVec.ofNat 16 (0x0040 + 8 * i)) := by
  have hp : p ≠ 0 := by rintro rfl; simp at h
  rw [State.enterVector, if_neg hp, lowestSource_eq hi h hlow, vectorOf]

/-- Settles O48: the two pushes complete together by `push16_ok`, the pending set between them names the vector, and the
step ends as an instruction's does. -/
theorem interruptDispatch : Obligations.InterruptDispatch := by
  intro s hs e ret entered hm hime hp
  have hstep : step s = dispatchStep e.awake :=
    step_eq_dispatchStep hs hm hime (mt (pending_eq_zero_iff _).2 hp)
  have htake : takeInterrupt e.awake = (pushByte (hi8 ret) entered).bind fun _ u =>
      (pushByte (lo8 ret) u).bind fun _ t => .ok () ((t.enterVector u.pending).addCycles 5) := by
    rw [takeInterrupt_awake, returnAddress_eq]
    rfl
  rw [hstep]
  refine ⟨fun hf => ?_, fun t ht => dispatchStep_of_stop ?_, fun u t hu ht => dispatchStep_of_stop ?_⟩
  · obtain ⟨u, t, hu, ht, -, hregs, hcycles⟩ := push16_ok (s := entered) (v := ret) hf
    have hsp : u.regs.sp = e.regs.sp - 1 := by rw [writes_regs hu]; rfl
    have hmode : t.mode = .running := (writes_mode ht).trans (writes_mode hu)
    have hentered : takeInterrupt e.awake = .ok () ((t.enterVector u.pending).addCycles 5) := by
      have hfst : pushByte (hi8 ret) entered = .ok () u := hu.1
      have hsnd : pushByte (lo8 ret) u = .ok () t := (pushByte_snd _ hsp).trans ht.1
      rw [htake, hfst]
      dsimp only [Res.bind]
      rw [hsnd]
    refine ⟨u, t, hu, ht, hregs, fun hp0 => ?_, fun i hi hbit hlow => ?_⟩
    · rw [(pending_eq_zero_iff u).1 hp0, enterVector_zero] at hentered
      rw [dispatchStep_of_ok hentered (by rw [State.addCycles_mode, State.setPc_mode, hmode]; decide)]
      exact congrArg (endStep entered) (by rw [← hcycles]; rfl)
    · rw [pending_bits u hi] at hbit
      have hlow' : ∀ j < i, u.pending.getLsbD j = false := fun j hj =>
        (pending_bits u (hj.trans hi)).symm.trans (hlow j hj)
      rw [enterVector_of_lowest hi hbit hlow'] at hentered
      refine ⟨t.iflag &&& ~~~(1#5 <<< i), fun k hk => getLsbD_clear _ _ hk, ?_⟩
      rw [dispatchStep_of_ok hentered (by rw [State.addCycles_mode, State.setPc_mode, hmode]; decide)]
      exact congrArg (endStep entered) (by rw [← hcycles]; rfl)
  · rw [htake]
    exact bind_of_stop ht
  · have hu' : pushByte (hi8 ret) entered = .ok () u := hu
    rw [htake, hu']
    exact bind_of_stop (r := pushByte (lo8 ret) u) ht

/-! ## The environment's moves (R611, R631, R690) -/

theorem getLsbD_request (f : BitVec 5) (i : Fin 5) (k : Nat) :
    (f ||| (1#5 <<< i.val)).getLsbD k = (f.getLsbD k || decide (k = i.val)) := by
  have := i.isLt
  rw [BitVec.getLsbD_or, ← BitVec.twoPow_eq, BitVec.getLsbD_twoPow]
  congr 1
  simp [eq_comm]

/-- Settles O50: each move is its own definition, and the boundary's moves are the schedule's first entry. -/
theorem environmentMoves : Obligations.EnvironmentMoves := by
  refine fun s => ⟨fun i => ⟨_, rfl, getLsbD_request s.iflag i⟩, fun h => if_pos h, fun h => if_neg h, fun h => ?_,
    fun moves rest h => ?_⟩ <;> rw [State.takeEnv, h]

end Sys2Proof.Machine
end

section
/-! PROOFS. The DMA byte sequencer: one tick, and a whole transfer by induction over its ticks (spec 60_exceptions.md
R651, R652, R653, 70_reset_and_hazards.md R723). -/

namespace Sys2Proof.Machine

variable {s t u : State}

/-! ## One tick (R652) -/

theorem dmaTick_inactive (h : s.dma.active = false) : dmaTick s = .ok () s := by
  rw [dmaTick, h]
  rfl

theorem dmaTick_delayed (h : s.dma.active = true) (hd : 0 < s.dma.delay) :
    dmaTick s = .ok () { s with dma := { s.dma with delay := s.dma.delay - 1 } } := by
  rw [dmaTick, if_pos h, if_pos hd]

theorem dmaTick_copies (h : s.dma.active = true) (hd : s.dma.delay = 0) :
    dmaTick s = (busRead s.dmaSource s).bind fun v u => .ok () (u.dmaStore v) := by
  rw [dmaTick, if_pos h, if_neg (by omega)]

/-- The byte copied, with the count as it was before the read. -/
theorem dmaStore_of_busRead {a : Addr} {v : Byte} (h : busRead a s = .ok v u) (hd : s.dma.delay = 0) :
    u.dmaStore v = { u with
      oam := u.oam.write s.dma.count v
      dma := { active := decide (s.dma.count + 1 ≠ 160), delay := 0, count := s.dma.count + 1 } } := by
  have hdma : u.dma = s.dma := by rw [busRead_onlyReads h]
  have hne : (s.dma.count + 1 != 160) = decide (s.dma.count + 1 ≠ 160) :=
    Bool.eq_iff_iff.2 (by simp)
  rw [State.dmaStore, hdma, dmaTransferSize, hne, ← hd]

/-- Settles O52: a tick by the sequencer's active bit and its delay. -/
theorem dmaTick_spec : Obligations.DmaTick := by
  refine fun s => ⟨dmaTick_inactive, dmaTick_delayed, fun h hd => ⟨fun v u hr => ?_, fun u hr => ?_⟩⟩ <;>
    rw [dmaTick_copies h hd, State.dmaSource, hr]
  · exact congrArg (Res.ok ()) (dmaStore_of_busRead hr hd)
  · rfl

/-! ## A run of ticks -/

theorem dmaTicks_add (m n : Nat) (s : State) : dmaTicks (m + n) s = (dmaTicks m s).bind fun _ t => dmaTicks n t := by
  induction m generalizing s with
  | zero => rw [Nat.zero_add]; rfl
  | succ m ih =>
    rw [Nat.succ_add, dmaTicks, dmaTicks]
    cases dmaTick s with
    | ok _ t => exact ih t
    | stop t => rfl

theorem dmaTicks_succ (n : Nat) (s : State) : dmaTicks (n + 1) s = (dmaTicks n s).bind fun _ t => dmaTick t := by
  rw [dmaTicks_add]
  congr
  funext _ t
  cases h : dmaTick t <;> rw [dmaTicks, h] <;> rfl

/-- The state after `n` ticks of the start delay (R651). -/
def State.dmaWaited (s : State) (n : Nat) : State := { s with dma := { s.dma with delay := s.dma.delay - n } }

theorem dmaTicks_delayed {n : Nat} (h : s.dma.active = true) (hn : n ≤ s.dma.delay) :
    dmaTicks n s = .ok () (s.dmaWaited n) := by
  induction n with
  | zero => rfl
  | succ n ih =>
    have hpos : 0 < (s.dmaWaited n).dma.delay := Nat.sub_pos_of_lt hn
    rw [dmaTicks_succ, ih (by omega)]
    exact dmaTick_delayed h hpos

/-! ## The copy -/

/-- A store with the first `n` bytes of `src` written over it. -/
def Memory.overwrite (m : Memory) (src : Nat → Byte) : Nat → Memory
  | 0 => m
  | n + 1 => (m.overwrite src n).write n (src n)

theorem Memory.read_overwrite (m : Memory) (src : Nat → Byte) (n k : Nat) :
    (m.overwrite src n).read k = if k < n then src k else m.read k := by
  induction n with
  | zero => rfl
  | succ n ih =>
    rw [Memory.overwrite, Memory.read_write, ih]
    rcases Nat.lt_trichotomy k n with h | rfl | h
    · rw [if_neg (by omega), if_pos h, if_pos (by omega)]
    · rw [if_pos rfl, if_pos (by omega)]
    · rw [if_neg (by omega), if_neg (by omega), if_neg (by omega)]

/-- The state after `n` bytes of the transfer (R652). -/
def State.dmaCopied (s : State) (src : Nat → Byte) (n : Nat) : State :=
  { s with oam := s.oam.overwrite src n, dma := { active := decide (n ≠ 160), delay := 0, count := n } }

theorem locate_ne_oam {a : Addr} (h : a.toNat < 0xFE00) (off : Nat) : s.locate a ≠ .oam off := by
  rcases locate_cases s a with ⟨h1, e⟩ | ⟨h1, h2, e⟩ | ⟨h1, h2, e⟩ | ⟨h1, h2, e⟩ | ⟨h1, h2, h3, e⟩ | ⟨h1, h2, h3, e⟩
    | ⟨h1, h2, e⟩ | ⟨h1, h2, e⟩ | ⟨h1, e⟩ | ⟨h1, e⟩ | ⟨h1, h2, e⟩ | ⟨h1, h2, h3, h4, h5, e⟩ | ⟨h1, h2, e⟩ | ⟨h1, e⟩
    <;> rw [e]
  case inr.inr.inr.inr.inr.inr.inl => omega
  all_goals exact Target.noConfusion

/-- The source page is below OAM, so the bytes copied do not change the bytes to copy. -/
theorem peek_dmaCopied (src : Nat → Byte) (n : Nat) {a : Addr} (ha : a.toNat < 0xFE00) :
    (s.dmaCopied src n).peek a = s.peek a := by
  have hl : (s.dmaCopied src n).locate a = s.locate a := rfl
  refine peek_congr rfl hl ?_
  unfold State.heldAt
  rw [hl]
  cases he : s.locate a with
  | oam off => exact absurd he (locate_ne_oam ha off)
  | ext tg => cases tg <;> rfl
  | _ => rfl

section Transfer

variable {src : Nat → Byte} (hstride : s.params.dmaSourceStride = 0x100) (hpage : s.dmaReg.toNat < 0xFE)
  (hsrc : ∀ k < 160, s.peek (BitVec.ofNat 16 (s.dmaReg.toNat * 0x100 + k)) = some (src k))
include hstride hpage hsrc

theorem dmaTick_dmaCopied {n : Nat} (hn : n < 160) :
    dmaTick (s.dmaCopied src n) = .ok () (s.dmaCopied src (n + 1)) := by
  have hactive : (s.dmaCopied src n).dma.active = true := decide_eq_true (by omega)
  have hsource : (s.dmaCopied src n).dmaSource = BitVec.ofNat 16 (s.dmaReg.toNat * 0x100 + n) := by
    rw [← hstride]; rfl
  have hbelow : (BitVec.ofNat 16 (s.dmaReg.toNat * 0x100 + n)).toNat < 0xFE00 := by
    rw [BitVec.toNat_ofNat]; omega
  have hread := busRead_of_peek ((peek_dmaCopied src n hbelow).trans (hsrc n hn))
  rw [dmaTick_copies hactive rfl, hsource, hread]
  exact congrArg (Res.ok ()) (dmaStore_of_busRead hread rfl)

/-- After the start delay each tick copies the next byte. -/
theorem dmaTicks_copied {n : Nat} (hactive : s.dma.active = true) (hcount : s.dma.count = 0) (hn : n ≤ 160) :
    dmaTicks (s.dma.delay + n) s = .ok () (s.dmaCopied src n) := by
  induction n with
  | zero =>
    rw [Nat.add_zero, dmaTicks_delayed hactive (Nat.le_refl _)]
    simp [State.dmaWaited, State.dmaCopied, Memory.overwrite, hactive, hcount]
  | succ n ih =>
    rw [← Nat.add_assoc, dmaTicks_succ, ih (by omega)]
    exact dmaTick_dmaCopied hstride hpage hsrc hn

end Transfer

/-- Settles O53: ticks of the start delay by `dmaTicks_delayed` and of the copy by `dmaTicks_copied`, and the table
reads as `read_overwrite` says. -/
theorem dmaTransferCompletes : Obligations.DmaTransferCompletes := by
  intro s src hactive hcount hstride hpage hsrc
  have hcopied := fun {n} => dmaTicks_copied (n := n) hstride hpage hsrc hactive hcount
  refine ⟨⟨_, hcopied (Nat.le_refl _), rfl, fun k hk => ?_, fun k hk => ?_⟩, fun n hn => ?_⟩
  · exact (Memory.read_overwrite ..).trans (if_pos hk)
  · exact (Memory.read_overwrite ..).trans (if_neg (by omega))
  · by_cases hd : n ≤ s.dma.delay
    · exact ⟨_, dmaTicks_delayed hactive hd, hactive, fun k hk => absurd hk (by omega), fun _ _ => rfl⟩
    · obtain ⟨m, rfl⟩ := Nat.exists_eq_add_of_le (Nat.le_of_not_le hd)
      refine ⟨_, hcopied (by omega), decide_eq_true (by omega), fun k hk => ?_, fun k hk => ?_⟩
      · exact (Memory.read_overwrite ..).trans (if_pos (by omega))
      · exact (Memory.read_overwrite ..).trans (if_neg (by omega))

end Sys2Proof.Machine
end

section
/-! PROOFS. The byte 0xCB runs the entry of the byte after it, and what the entries leave unchanged (spec 46_misc.md
R595, 30_encoding.md R306). -/

namespace Sys2Proof.Machine

variable {s t u : State}

/-! ## Frames in a row -/

theorem onlyRegsAndBus_of_onlyReads (h : s.onlyReads u) (g : Regs) (c : Nat) :
    s.onlyRegsAndBus { u with regs := g, cycles := c } := by
  unfold State.onlyRegsAndBus State.onlyBus
  rw [h]

theorem onlyRegsAndBus_of_onlyReads_onlyBus (h : s.onlyReads u) (h' : u.onlyBus t) (g : Regs) (c : Nat) :
    s.onlyRegsAndBus { t with regs := g, cycles := c } := by
  unfold State.onlyRegsAndBus State.onlyBus
  rw [h', h]

/-! ## The entry of the second byte (R306) -/

/-- The CB table by its four blocks, the operand by the low three bits (R301). -/
theorem decodeCb_cases (op2 : Byte) :
    (∃ op, decodeCb op2 = .shiftO op (Opd.ofCode (field3 op2 0)))
    ∨ (∃ b, decodeCb op2 = .bitO b (Opd.ofCode (field3 op2 0)))
    ∨ (∃ b, decodeCb op2 = .resO b (Opd.ofCode (field3 op2 0)))
    ∨ ∃ b, decodeCb op2 = .setO b (Opd.ofCode (field3 op2 0)) := by
  have h : decodeCb op2 = _ := decodeOp_prefixByte 0 op2
  rw [h]
  split
  · exact .inl ⟨_, rfl⟩
  · exact .inr (.inl ⟨_, rfl⟩)
  · exact .inr (.inr (.inl ⟨_, rfl⟩))
  · exact .inr (.inr (.inr ⟨_, rfl⟩))

theorem exec_prefixCb (op2 : Byte) (s : State) : exec (.prefixCb op2) s = exec (decodeCb op2) s := by
  have hx : op2.toNat / 64 < 4 := by have := op2.isLt; omega
  have hop := opcode_fields op2
  show cbEntry op2 s = _
  unfold cbEntry
  dsimp only
  generalize op2.toNat / 64 = x, field3 op2 3 = y, field3 op2 0 = z at hx hop ⊢
  subst hop
  interval_cases x
  · rw [decodeCb_shift]; exact (exec_shiftO ..).symm
  · rw [decodeCb_bit]; exact (exec_bitO ..).symm
  · rw [decodeCb_res]; exact (exec_resO ..).symm
  · rw [decodeCb_set]; exact (exec_setO ..).symm

theorem ofCode_indHl_iff (z : Fin 8) : z.val = 6 ↔ Opd.ofCode z = .indHl := by
  revert z; decide

theorem ofCode_reg {z : Fin 8} (h : z.val ≠ 6) : ∃ r, Opd.ofCode z = .reg r := by
  cases e : Opd.ofCode z with
  | reg r => exact ⟨r, rfl⟩
  | indHl => exact absurd ((ofCode_indHl_iff z).2 e) h

theorem field3_zero_val (op : Byte) : (field3 op 0).val = op.toNat % 8 := by
  simp [field3]

/-! ## What the entries leave unchanged (R540, R546) -/

/-- On a register every entry completes in 2 cycles. -/
theorem exec_decodeCb_reg {op2 : Byte} {r : R8} (h : Opd.ofCode (field3 op2 0) = .reg r) (s : State) :
    ∃ t, exec (decodeCb op2) s = .next t ∧ s.onlyRegs t ∧ t.cycles = s.cycles + 2 := by
  rcases decodeCb_cases op2 with ⟨op, e⟩ | ⟨b, e⟩ | ⟨b, e⟩ | ⟨b, e⟩ <;> rw [e, h]
  · exact ⟨_, exec_shiftO .., rfl, rfl⟩
  · exact ⟨_, exec_bitO .., rfl, rfl⟩
  · exact ⟨_, exec_resO .., rfl, rfl⟩
  · exact ⟨_, exec_setO .., rfl, rfl⟩

/-- On the byte at HL every entry completes where no value could fault there: BIT reads it, and the others read it and
write it back. -/
theorem exec_decodeCb_indHl {op2 : Byte} (h : Opd.ofCode (field3 op2 0) = .indHl)
    (hf : ∀ v, ¬s.writeFaults s.regs.hl v) :
    ∃ t, exec (decodeCb op2) s = .next t ∧ s.onlyRegsAndBus t ∧ s.cycles + 3 ≤ t.cycles := by
  have hupdate : ∀ f : Byte → Byte, ¬s.opdUpdateFaults .indHl f := fun f hu => hf _ hu.2
  rcases decodeCb_cases op2 with ⟨op, e⟩ | ⟨b, e⟩ | ⟨b, e⟩ | ⟨b, e⟩ <;> rw [e, h]
  · obtain ⟨v, u, w, t, hu, hw, hexec, -, ht⟩ := shiftO_completes (op := op) (hupdate _)
    refine ⟨t, hexec, ?_, ?_⟩ <;> rw [ht]
    · exact onlyRegsAndBus_of_onlyReads_onlyBus hu.2.1 hw.2.1 _ _
    · exact Nat.add_le_add_left (by decide) _
  · obtain ⟨v, u, t, hu, hexec, -, ht⟩ := ((bitOperations.1 b .indHl s).2).2 fun hr => hf 0 (.inl hr.2)
    refine ⟨t, hexec, ?_, ?_⟩ <;> rw [ht]
    · exact onlyRegsAndBus_of_onlyReads hu.2.1 _ _
    · exact Nat.le_refl _
  · obtain ⟨v, u, w, hu, hw, hexec⟩ := update_completes (exec_resO b .indHl s) (hupdate _)
    exact ⟨_, hexec, onlyRegsAndBus_of_onlyReads_onlyBus hu.2.1 hw.2.1 _ _, Nat.add_le_add_left (by decide) _⟩
  · obtain ⟨v, u, w, hu, hw, hexec⟩ := update_completes (exec_setO b .indHl s) (hupdate _)
    exact ⟨_, hexec, onlyRegsAndBus_of_onlyReads_onlyBus hu.2.1 hw.2.1 _ _, Nat.add_le_add_left (by decide) _⟩

/-- Settles O39: `prefixCb` runs the entry by `exec_prefixCb`, and the entry's operand is the byte at HL exactly where
its code is 6. -/
theorem prefixRunsEntry : Obligations.PrefixRunsEntry := by
  refine fun op2 s => ⟨fun rest => rfl, exec_prefixCb op2 s, fun hz => ?_, fun hz hf => ?_⟩ <;>
    rw [exec_prefixCb] <;> rw [← field3_zero_val] at hz
  · obtain ⟨r, h⟩ := ofCode_reg hz
    exact exec_decodeCb_reg h s
  · exact exec_decodeCb_indHl ((ofCode_indHl_iff _).1 hz) hf

end Sys2Proof.Machine
end

section
/-! PROOFS. Which instructions write PC, SP, F, IME, `eiPending`, `haltBug` and the mode (spec 10_state.md R102, R108 to
R112): each operation with what it may write, then each family. -/

namespace Sys2Proof.Machine

/-- Which parts of the state may be written. -/
structure Writes where
  pc : Prop
  sp : Prop
  f : Prop
  ime : Prop
  eiPending : Prop
  haltBug : Prop
  mode : Prop

/-- What R102 and R108 to R112 let an instruction write. -/
abbrev writesOf (i : Instr) : Writes where
  pc := i = .jpHl ∨ i = .ret ∨ i = .reti
    ∨ (∃ n, i = .jpN16 n ∨ i = .callN16 n ∨ ∃ cc, i = .jpCc cc n ∨ i = .callCc cc n)
    ∨ (∃ e, i = .jrE8 e ∨ ∃ cc, i = .jrCc cc e) ∨ (∃ cc, i = .retCc cc) ∨ (∃ y, i = .rst y)
  sp := i = .ldSpHl ∨ i = .ret ∨ i = .reti ∨ i = .pushAf ∨ i = .popAf
    ∨ (∃ n, i = .ldPairN .sp n ∨ i = .callN16 n ∨ ∃ cc, i = .callCc cc n) ∨ (∃ e, i = .addSpE8 e)
    ∨ i = .incPair .sp ∨ i = .decPair .sp ∨ (∃ cc, i = .retCc cc) ∨ (∃ y, i = .rst y) ∨ ∃ p, i = .push p ∨ i = .pop p
  f := (∃ op o, i = .aluO op o) ∨ (∃ op n, i = .aluN op n) ∨ (∃ o, i = .incO o ∨ i = .decO o)
    ∨ i = .daa ∨ i = .cpl ∨ i = .scf ∨ i = .ccf ∨ (∃ p, i = .addHl p) ∨ (∃ e, i = .addSpE8 e ∨ i = .ldHlSpE8 e)
    ∨ i = .rlca ∨ i = .rrca ∨ i = .rla ∨ i = .rra ∨ (∃ op o, i = .shiftO op o) ∨ (∃ b o, i = .bitO b o)
    ∨ (∃ op2, i = .prefixCb op2) ∨ i = .popAf
  ime := i = .di ∨ i = .reti
  eiPending := i = .di ∨ i = .ei
  haltBug := i = .halt
  mode := i = .halt ∨ ∃ b, i = .stop b

theorem writesOf_jpCc_pc (cc : Cond) (n : Addr) : (writesOf (.jpCc cc n)).pc :=
  .inr (.inr (.inr (.inl ⟨n, .inr (.inr ⟨cc, .inl rfl⟩)⟩)))

theorem writesOf_jrCc_pc (cc : Cond) (e : Byte) : (writesOf (.jrCc cc e)).pc :=
  .inr (.inr (.inr (.inr (.inl ⟨e, .inr ⟨cc, rfl⟩⟩))))

theorem writesOf_callCc_pc (cc : Cond) (n : Addr) : (writesOf (.callCc cc n)).pc :=
  .inr (.inr (.inr (.inl ⟨n, .inr (.inr ⟨cc, .inr rfl⟩)⟩)))

theorem writesOf_callCc_sp (cc : Cond) (n : Addr) : (writesOf (.callCc cc n)).sp :=
  .inr (.inr (.inr (.inr (.inr (.inl ⟨n, .inr (.inr ⟨cc, rfl⟩)⟩)))))

/-- From `s` to `t` nothing was written of the named parts but what `w` allows; a fault may have set the mode. -/
structure Writes.Allow (w : Writes) (s t : State) : Prop where
  pc : t.regs.pc = s.regs.pc ∨ w.pc
  sp : t.regs.sp = s.regs.sp ∨ w.sp
  f : t.regs.f = s.regs.f ∨ w.f
  ime : t.ime = s.ime ∨ w.ime
  eiPending : t.eiPending = s.eiPending ∨ w.eiPending
  haltBug : t.haltBug = s.haltBug ∨ w.haltBug
  mode : t.mode = s.mode ∨ t.mode = .faulted ∨ w.mode
  opcodeAddr : t.opcodeAddr = s.opcodeAddr
  schedule : t.schedule = s.schedule

namespace Writes.Allow

variable {w : Writes} {s t u : State}

theorem refl (w : Writes) (s : State) : w.Allow s s :=
  ⟨.inl rfl, .inl rfl, .inl rfl, .inl rfl, .inl rfl, .inl rfl, .inl rfl, rfl, rfl⟩

variable (h : w.Allow s t)
include h

/-! ## Elementary updates -/

theorem regs {g : Regs} (hpc : g.pc = t.regs.pc) (hsp : g.sp = t.regs.sp) (hf : g.f = t.regs.f) :
    w.Allow s { t with regs := g } :=
  { h with pc := hpc ▸ h.pc, sp := hsp ▸ h.sp, f := hf ▸ h.f }

theorem setR8 (r : R8) (v : Byte) : w.Allow s (t.setR8 r v) :=
  have ⟨hf, hsp, hpc⟩ := t.regs.setR8_others r v
  h.regs hpc hsp hf

theorem setPair (p : Pair) (v : Addr) (hw : p = .sp → w.sp) : w.Allow s (t.setPair p v) := by
  cases p
  case sp => exact { h with sp := .inr (hw rfl) }
  all_goals exact h.regs rfl rfl rfl

theorem setStackPair (p : StackPair) (v : Addr) : w.Allow s { t with regs := t.regs.setStackPair p v } :=
  have ⟨_, hf, hsp, hpc⟩ := t.regs.setStackPair_others p v
  h.regs hpc hsp hf

theorem setSp (hw : w.sp) (v : Addr) : w.Allow s (t.setSp v) := { h with sp := .inr hw }

theorem setPc (hw : w.pc) (v : Addr) : w.Allow s (t.setPc v) := { h with pc := .inr hw }

theorem setF (hw : w.f) (v : Byte) : w.Allow s (t.setF v) := { h with f := .inr hw }

theorem setFlags (hw : w.f) (z n hc c : Bool) : w.Allow s (t.setFlags z n hc c) := { h with f := .inr hw }

theorem alu (hw : w.f) (op : AluOp) (v : Byte) : w.Allow s (t.alu op v) := by
  cases op
  case cp => exact h.setFlags hw ..
  all_goals exact (h.setR8 ..).setFlags hw ..

theorem addCycles (k : Nat) : w.Allow s (t.addCycles k) := { h with }

theorem raised (k : FaultInfo) : w.Allow s (t.raised k) := { h with mode := .inr (.inl rfl) }

/-! ## Operations -/

theorem memRead (a : Addr) : (memRead a t).Sat (w.Allow s) (w.Allow s) := by
  rcases memRead_cases a t with ⟨v, u, e, hu⟩ | ⟨k, e⟩ <;> rw [e]
  · show w.Allow s u
    rw [hu]
    exact { h with }
  · exact h.raised k

theorem memWrite (a : Addr) (v : Byte) : (memWrite a v t).Sat (w.Allow s) (w.Allow s) := by
  cases e : Machine.memWrite a v t with
  | ok _ u =>
    show w.Allow s u
    rw [memWrite_onlyBus e]
    exact { h with }
  | stop u =>
    obtain ⟨k, rfl | ⟨-, rfl⟩⟩ := memWrite_stop_cases e
    · exact h.raised k
    · exact { h.raised k with }

theorem readOpd (o : Opd) : (readOpd o t).Sat (w.Allow s) (w.Allow s) := by
  cases o with
  | reg r => exact h
  | indHl => exact h.memRead _

theorem writeOpd (o : Opd) (v : Byte) : (writeOpd o v t).Sat (w.Allow s) (w.Allow s) := by
  cases o with
  | reg r => exact h.setR8 r v
  | indHl => exact h.memWrite _ v

theorem push16 (hw : w.sp) (v : Addr) : (push16 v t).Sat (w.Allow s) (w.Allow s) :=
  ((h.setSp hw _).memWrite _ _).bind fun _ _ h => (h.setSp hw _).memWrite _ _

theorem popByte (hw : w.sp) : (popByte t).Sat (w.Allow s) (w.Allow s) :=
  (h.memRead _).bind fun _ _ h => h.setSp hw _

theorem pop16 (hw : w.sp) : (pop16 t).Sat (w.Allow s) (w.Allow s) :=
  (h.popByte hw).bind fun _ _ h => (h.popByte hw).bind fun _ _ h => h

omit h in
theorem finish {r : Res Unit} (k : Nat) (h : r.Sat (w.Allow s) (w.Allow s)) : Keeps (w.Allow s) (r.finish k) := by
  cases r with
  | ok _ t => exact .next (Writes.Allow.addCycles h k)
  | stop t => exact .next h

/-! ## Shared forms -/

theorem loadFrom (dst : R8) (a : Addr) (k : Nat) : Keeps (w.Allow s) (loadFrom dst a k t) :=
  finish k ((h.memRead a).bind fun _ _ h => h.setR8 ..)

theorem storeTo (a : Addr) (v : Byte) (k : Nat) : Keeps (w.Allow s) (storeTo a v k t) := finish k (h.memWrite a v)

theorem loadMoveHl (d : Addr) : Keeps (w.Allow s) (loadMoveHl d t) :=
  finish 2 ((h.memRead _).bind fun _ _ h => (h.setR8 ..).setPair _ _ nofun)

theorem storeMoveHl (d : Addr) : Keeps (w.Allow s) (storeMoveHl d t) :=
  finish 2 ((h.memWrite ..).bind fun _ _ h => h.setPair _ _ nofun)

theorem jumpTo (hw : w.pc) (n : Addr) (k : Nat) : Keeps (w.Allow s) (jumpTo n k t) :=
  .next ((h.setPc hw n).addCycles k)

theorem notTaken (k : Nat) : Keeps (w.Allow s) (notTaken k t) := .next (h.addCycles k)

theorem callTo (hpc : w.pc) (hsp : w.sp) (n : Addr) (k : Nat) : Keeps (w.Allow s) (callTo n k t) :=
  finish k ((h.push16 hsp _).bind fun _ _ h => h.setPc hpc n)

theorem returnFrom (hpc : w.pc) (hsp : w.sp) (k : Nat) : Keeps (w.Allow s) (returnFrom k t) :=
  finish k ((h.pop16 hsp).bind fun _ _ h => h.setPc hpc _)

theorem rotateA (hw : w.f) (op : ShiftOp) : Keeps (w.Allow s) (rotateA op t) :=
  .next (((h.setR8 ..).setFlags hw ..).addCycles 1)

theorem shiftOpd (hw : w.f) (op : ShiftOp) (o : Opd) : Keeps (w.Allow s) (shiftOpd op o t) :=
  finish _ ((h.readOpd o).bind fun _ _ h => (h.writeOpd o _).bind fun _ _ h => h.setFlags hw ..)

theorem bitOpd (hw : w.f) (b : Fin 8) (o : Opd) : Keeps (w.Allow s) (bitOpd b o t) :=
  finish _ ((h.readOpd o).bind fun _ _ h => h.setFlags hw ..)

theorem resOpd (b : Fin 8) (o : Opd) : Keeps (w.Allow s) (resOpd b o t) :=
  finish _ ((h.readOpd o).bind fun _ _ h => h.writeOpd o _)

theorem setOpd (b : Fin 8) (o : Opd) : Keeps (w.Allow s) (setOpd b o t) :=
  finish _ ((h.readOpd o).bind fun _ _ h => h.writeOpd o _)

end Writes.Allow

/-! ## Every instruction -/

/-- An instruction writes only what the rules name it for. -/
theorem exec_allow (i : Instr) (s : State) : Keeps ((writesOf i).Allow s) (exec i s) := by
  have h : (writesOf i).Allow s s := .refl _ s
  revert h
  induction i using instr_family_cases with intro h
  | h_ldRR dst src => rw [exec_ldRR]; exact .next ((h.setR8 ..).addCycles 1)
  | h_ldRN dst n => rw [exec_ldRN]; exact .next ((h.setR8 ..).addCycles 2)
  | h_ldRIndHl dst => rw [exec_ldRIndHl]; exact h.loadFrom _ _ _
  | h_ldIndHlR src => rw [exec_ldIndHlR]; exact h.storeTo _ _ _
  | h_aluO op o => rw [exec_aluO]; exact .finish _ ((h.readOpd o).bind fun _ _ h => h.alu (by simp) op _)
  | h_aluN op n => rw [exec_aluN]; exact .next ((h.alu (by simp) op n).addCycles 2)
  | h_incO o =>
    rw [exec_incO]
    exact .finish _ ((h.readOpd o).bind fun _ _ h => (h.writeOpd o _).bind fun _ _ h =>
      h.setFlags (by simp [exists_or]) ..)
  | h_decO o =>
    rw [exec_decO]
    exact .finish _ ((h.readOpd o).bind fun _ _ h => (h.writeOpd o _).bind fun _ _ h =>
      h.setFlags (by simp [exists_or]) ..)
  | h_ldPairN p n => rw [exec_ldPairN]; exact .next ((h.setPair p n (by rintro rfl; simp [exists_or])).addCycles 3)
  | h_incPair p => rw [exec_incPair]; exact .next ((h.setPair p _ (by rintro rfl; simp)).addCycles 2)
  | h_decPair p => rw [exec_decPair]; exact .next ((h.setPair p _ (by rintro rfl; simp)).addCycles 2)
  | h_addHl p => rw [exec_addHl]; exact .next (((h.setFlags (by simp) ..).setPair .hl _ nofun).addCycles 2)
  | h_push p => rw [exec_push]; exact .finish 4 (h.push16 (by simp [exists_or]) _)
  | h_pop p => rw [exec_pop]; exact .finish 3 ((h.pop16 (by simp [exists_or])).bind fun _ _ h => h.setStackPair p _)
  | h_jpCc cc n =>
    rw [exec_jpCc]; unfold jpIf; split
    exacts [h.jumpTo (writesOf_jpCc_pc cc n) _ _, h.notTaken _]
  | h_jrCc cc e =>
    rw [exec_jrCc]; unfold jrIf; split
    exacts [h.jumpTo (writesOf_jrCc_pc cc e) _ _, h.notTaken _]
  | h_callCc cc n =>
    rw [exec_callCc]; unfold callIf; split
    exacts [h.callTo (writesOf_callCc_pc cc n) (writesOf_callCc_sp cc n) _ _, h.notTaken _]
  | h_retCc cc =>
    rw [exec_retCc]; unfold retIf; split
    exacts [h.returnFrom (by simp) (by simp) _, h.notTaken _]
  | h_rst y => rw [exec_rst]; exact h.callTo (by simp [exists_or]) (by simp [exists_or]) _ _
  | h_shiftO op o => rw [exec_shiftO]; exact h.shiftOpd (by simp) op o
  | h_bitO b o => rw [exec_bitO]; exact h.bitOpd (by simp) b o
  | h_resO b o => rw [exec_resO]; exact h.resOpd b o
  | h_setO b o => rw [exec_setO]; exact h.setOpd b o
  | h_prefixCb op2 =>
    show Keeps _ (cbEntry op2 s)
    unfold cbEntry
    dsimp only
    split
    exacts [h.shiftOpd (by simp) _ _, h.bitOpd (by simp) _ _, h.resOpd _ _, h.setOpd _ _]
  | h_nop => exact .next (h.addCycles 1)
  | h_stop n =>
    show Keeps _ (execStop n s)
    unfold execStop
    split
    · exact .next (h.raised _)
    · exact .next { h with mode := .inr (.inr (by simp)) }
  | h_halt =>
    rw [exec_halt]
    unfold State.haltOrBug
    split
    · exact .next { h with mode := .inr (.inr (by simp)) }
    · exact .next { h with haltBug := .inr rfl }
  | h_di => exact .next { h with ime := .inr (by simp), eiPending := .inr (by simp) }
  | h_ei => exact .next { h with eiPending := .inr (by simp) }
  | h_illegal p hp => rw [exec_illegal hp]; exact .next (h.raised _)
  | h_rlca => exact h.rotateA (by simp) _
  | h_rrca => exact h.rotateA (by simp) _
  | h_rla => exact h.rotateA (by simp) _
  | h_rra => exact h.rotateA (by simp) _
  | h_daa => exact .next (((h.setR8 _ _).setFlags (by simp) ..).addCycles 1)
  | h_cpl => exact .next (((h.setR8 _ _).setFlags (by simp) ..).addCycles 1)
  | h_scf => exact .next ((h.setFlags (by simp) ..).addCycles 1)
  | h_ccf => exact .next ((h.setFlags (by simp) ..).addCycles 1)
  | h_addSpE8 e => exact .next (((h.setFlags (by simp [exists_or]) ..).setSp (by simp [exists_or]) _).addCycles 4)
  | h_ldHlSpE8 e => exact .next (((h.setFlags (by simp [exists_or]) ..).setPair .hl _ nofun).addCycles 3)
  | h_ldSpHl => exact .next ((h.setSp (by simp) _).addCycles 2)
  | h_pushAf => exact .finish 4 (h.push16 (by simp) _)
  | h_popAf =>
    exact .finish 3 ((h.pop16 (by simp)).bind fun _ _ h => (h.setR8 _ _).setF (by simp) _)
  | h_jpN16 n => exact h.jumpTo (by simp [exists_or]) _ _
  | h_jrE8 e => exact h.jumpTo (by simp [exists_or]) _ _
  | h_jpHl => exact h.jumpTo (by simp) _ _
  | h_callN16 n => exact h.callTo (by simp [exists_or]) (by simp [exists_or]) _ _
  | h_ret => exact h.returnFrom (by simp) (by simp) _
  | h_reti =>
    exact .finish 4 ((h.pop16 (by simp)).bind fun v _ h => { h.setPc (by simp) v with ime := .inr (by simp) })
  | h_ldIndN16Sp n => exact .finish 5 ((h.memWrite _ _).bind fun _ _ h => h.memWrite _ _)
  | h_ldIndHlIncA => exact h.storeMoveHl _
  | h_ldIndHlDecA => exact h.storeMoveHl _
  | h_ldAIndHlInc => exact h.loadMoveHl _
  | h_ldAIndHlDec => exact h.loadMoveHl _
  | h_ldIndBcA => exact h.storeTo _ _ _
  | h_ldIndDeA => exact h.storeTo _ _ _
  | h_ldIndHlN8 n => exact h.storeTo _ _ _
  | h_ldhIndN8A n => exact h.storeTo _ _ _
  | h_ldhIndCA => exact h.storeTo _ _ _
  | h_ldIndN16A n => exact h.storeTo _ _ _
  | h_ldAIndBc => exact h.loadFrom _ _ _
  | h_ldAIndDe => exact h.loadFrom _ _ _
  | h_ldhAIndN8 n => exact h.loadFrom _ _ _
  | h_ldhAIndC => exact h.loadFrom _ _ _
  | h_ldAIndN16 n => exact h.loadFrom _ _ _

/-- Settles O59: the control state's share of `exec_allow`. -/
theorem controlStateWriters : Obligations.ControlStateWriters := fun i s t e =>
  have h := exec_allow i s t e
  ⟨h.ime, h.eiPending, h.haltBug, h.mode, h.opcodeAddr, h.schedule⟩

/-- Settles O60: the registers' share of `exec_allow`. -/
theorem registerAndFlagWriters : Obligations.RegisterAndFlagWriters :=
  ⟨fun i s t e => ⟨(exec_allow i s t e).pc, (exec_allow i s t e).sp⟩, fun i s t e => (exec_allow i s t e).f⟩

end Sys2Proof.Machine
end
